-- ==== Sys2Proof/Word.lean ====
section
/-! DEFINITION. The two word types of the machine (R5: "a byte is 8 bits", pairs, addresses, PC and SP are 16 bits).
Byte order and field helpers stand in `Decode.lean`, where a repair may mend them. -/
namespace Sys2Proof

/-- A byte: a general register, a memory cell, an immediate, a port number or a port value (R5). -/
abbrev Byte := BitVec 8

/-- A 16-bit value: a register pair, an address operand, PC or SP (R5, D6). -/
abbrev Word := BitVec 16

end Sys2Proof
end

