-- ==== Sys2Proof/Config.lean ====
section
/-! DEFINITION. The implementation parameters of R4, as plain data. `State` carries one `Config` beside the
architectural state, because the host's `step` takes a state and nothing else; no instruction changes it (R23).
`IMAGE`, the fifth parameter of R4, is the argument of `resetWith` (R260). -/
namespace Sys2Proof

/-- The twelve opcode values the canonical instruction set leaves undocumented (R63); `UNDEF_SET` may hold no other (R64). -/
def aliasOpcodes : List Byte :=
  [0x08, 0x10, 0x18, 0x20, 0x28, 0x30, 0x38, 0xCB, 0xD9, 0xDD, 0xED, 0xFD]

/-- The parameters of one core (R4). -/
structure Config where
  /-- MEM_SIZE: the number of bytes of memory, 1 to 65536 (R4, D1). -/
  memSize : Nat
  /-- SP_RESET: what reset writes to SP (R4, D2). -/
  spReset : Word
  /-- UNDEF_SET: the alias opcodes that raise DecodeError in this core (R4, R64, D4). -/
  undefSet : List Byte
  /-- PortIn as a table: the ports that answer a value, each with its value; a port not listed answers none (R4, D5). -/
  portIn : List (Byte × Byte)
  deriving DecidableEq, Repr

/-- The defaults of R4 for a memory of `n` bytes: SP_RESET is `n - 1`, UNDEF_SET is empty, PortIn is none everywhere. -/
def Config.ofMemSize (n : Nat) : Config :=
  { memSize := n, spReset := BitVec.ofNat 16 (n - 1), undefSet := [], portIn := [] }

/-- The default parameters of R4: MEM_SIZE = 65536, SP_RESET = 0xFFFF, UNDEF_SET empty, PortIn none. -/
def Config.standard : Config :=
  { memSize := 65536, spReset := 0xFFFF, undefSet := [], portIn := [] }

end Sys2Proof
end

