-- ==== Sys2Proof/Syntax.lean ====
section
/-! DEFINITION. The syntax of the instruction set, whole: one constructor of `Instr` per mnemonic of
`spec/opcode_table.json` (244; the twelve alias rows carry the mnemonic of the instruction they copy and decode to its
constructor, R63: an alias stands for "the *same* semantic instruction as the canonical opcode, not a distinct one").
Beside it the field codes of the opcode byte as types (R53 to R56). Every operand has exactly the width the encoding
gives it, so no constructor can hold an operand value the machine does not have (R64, R239). -/
namespace Sys2Proof

/-- The seven 8-bit registers (R10). -/
inductive Reg where
  | B | C | D | E | H | L | A
  deriving DecidableEq, Repr

/-- The three register pairs, named by their registers, high byte first (R11). -/
inductive RegPair where
  | BC | DE | HL
  deriving DecidableEq, Repr

/-- The `rp` operand of LXI, INX, DCX and DAD: a register pair or SP (R54). -/
inductive Pair where
  | rp (p : RegPair)
  | SP
  deriving DecidableEq, Repr

/-- The 8-bit operand selected by `ddd` or `sss`: a register, or M, the byte of memory at HL (R12, R53). -/
inductive Operand8 where
  | reg (r : Reg)
  | M
  deriving DecidableEq, Repr

/-- The condition selected by `ccc` (R55). -/
inductive Cond where
  | NZ | Z | NC | C | PO | PE | P | M
  deriving DecidableEq, Repr

/-- The accumulator operation selected by `alu` (R56). -/
inductive AluOp where
  | ADD | ADC | SUB | SBB | ANA | XRA | ORA | CMP
  deriving DecidableEq, Repr

/-- The instructions. `d8` is immediate data, `p8` a port number, `d16` 16-bit immediate data and `a16` an address (R51, R57). -/
inductive Instr where
  /-- NOP: opcode 0x00, 1 byte (R190). -/
  | nop
  /-- LXI B,d16: opcode 0x01, 3 bytes (R86). -/
  | lxiB (d16 : Word)
  /-- STAX B: opcode 0x02, 1 byte (R210). -/
  | staxB
  /-- INX B: opcode 0x03, 1 byte (R116). -/
  | inxB
  /-- INR B: opcode 0x04, 1 byte (R112). -/
  | inrB
  /-- DCR B: opcode 0x05, 1 byte (R114). -/
  | dcrB
  /-- MVI B,d8: opcode 0x06, 2 bytes (R84). -/
  | mviB (d8 : Byte)
  /-- RLC: opcode 0x07, 1 byte (R150). -/
  | rlc
  /-- DAD B: opcode 0x09, 1 byte (R118). -/
  | dadB
  /-- LDAX B: opcode 0x0A, 1 byte (R211). -/
  | ldaxB
  /-- DCX B: opcode 0x0B, 1 byte (R117). -/
  | dcxB
  /-- INR C: opcode 0x0C, 1 byte (R112). -/
  | inrC
  /-- DCR C: opcode 0x0D, 1 byte (R114). -/
  | dcrC
  /-- MVI C,d8: opcode 0x0E, 2 bytes (R84). -/
  | mviC (d8 : Byte)
  /-- RRC: opcode 0x0F, 1 byte (R151). -/
  | rrc
  /-- LXI D,d16: opcode 0x11, 3 bytes (R86). -/
  | lxiD (d16 : Word)
  /-- STAX D: opcode 0x12, 1 byte (R210). -/
  | staxD
  /-- INX D: opcode 0x13, 1 byte (R116). -/
  | inxD
  /-- INR D: opcode 0x14, 1 byte (R112). -/
  | inrD
  /-- DCR D: opcode 0x15, 1 byte (R114). -/
  | dcrD
  /-- MVI D,d8: opcode 0x16, 2 bytes (R84). -/
  | mviD (d8 : Byte)
  /-- RAL: opcode 0x17, 1 byte (R152). -/
  | ral
  /-- DAD D: opcode 0x19, 1 byte (R118). -/
  | dadD
  /-- LDAX D: opcode 0x1A, 1 byte (R211). -/
  | ldaxD
  /-- DCX D: opcode 0x1B, 1 byte (R117). -/
  | dcxD
  /-- INR E: opcode 0x1C, 1 byte (R112). -/
  | inrE
  /-- DCR E: opcode 0x1D, 1 byte (R114). -/
  | dcrE
  /-- MVI E,d8: opcode 0x1E, 2 bytes (R84). -/
  | mviE (d8 : Byte)
  /-- RAR: opcode 0x1F, 1 byte (R153). -/
  | rar
  /-- LXI H,d16: opcode 0x21, 3 bytes (R86). -/
  | lxiH (d16 : Word)
  /-- SHLD a16: opcode 0x22, 3 bytes (R214). -/
  | shld (a16 : Word)
  /-- INX H: opcode 0x23, 1 byte (R116). -/
  | inxH
  /-- INR H: opcode 0x24, 1 byte (R112). -/
  | inrH
  /-- DCR H: opcode 0x25, 1 byte (R114). -/
  | dcrH
  /-- MVI H,d8: opcode 0x26, 2 bytes (R84). -/
  | mviH (d8 : Byte)
  /-- DAA: opcode 0x27, 1 byte (R194). -/
  | daa
  /-- DAD H: opcode 0x29, 1 byte (R118). -/
  | dadH
  /-- LHLD a16: opcode 0x2A, 3 bytes (R215). -/
  | lhld (a16 : Word)
  /-- DCX H: opcode 0x2B, 1 byte (R117). -/
  | dcxH
  /-- INR L: opcode 0x2C, 1 byte (R112). -/
  | inrL
  /-- DCR L: opcode 0x2D, 1 byte (R114). -/
  | dcrL
  /-- MVI L,d8: opcode 0x2E, 2 bytes (R84). -/
  | mviL (d8 : Byte)
  /-- CMA: opcode 0x2F, 1 byte (R193). -/
  | cma
  /-- LXI SP,d16: opcode 0x31, 3 bytes (R86). -/
  | lxiSP (d16 : Word)
  /-- STA a16: opcode 0x32, 3 bytes (R212). -/
  | sta (a16 : Word)
  /-- INX SP: opcode 0x33, 1 byte (R116). -/
  | inxSP
  /-- INR M: opcode 0x34, 1 byte (R113). -/
  | inrM
  /-- DCR M: opcode 0x35, 1 byte (R115). -/
  | dcrM
  /-- MVI M,d8: opcode 0x36, 2 bytes (R85). -/
  | mviM (d8 : Byte)
  /-- STC: opcode 0x37, 1 byte (R191). -/
  | stc
  /-- DAD SP: opcode 0x39, 1 byte (R118). -/
  | dadSP
  /-- LDA a16: opcode 0x3A, 3 bytes (R213). -/
  | lda (a16 : Word)
  /-- DCX SP: opcode 0x3B, 1 byte (R117). -/
  | dcxSP
  /-- INR A: opcode 0x3C, 1 byte (R112). -/
  | inrA
  /-- DCR A: opcode 0x3D, 1 byte (R114). -/
  | dcrA
  /-- MVI A,d8: opcode 0x3E, 2 bytes (R84). -/
  | mviA (d8 : Byte)
  /-- CMC: opcode 0x3F, 1 byte (R192). -/
  | cmc
  /-- MOV B,B: opcode 0x40, 1 byte (R80). -/
  | movBB
  /-- MOV B,C: opcode 0x41, 1 byte (R80). -/
  | movBC
  /-- MOV B,D: opcode 0x42, 1 byte (R80). -/
  | movBD
  /-- MOV B,E: opcode 0x43, 1 byte (R80). -/
  | movBE
  /-- MOV B,H: opcode 0x44, 1 byte (R80). -/
  | movBH
  /-- MOV B,L: opcode 0x45, 1 byte (R80). -/
  | movBL
  /-- MOV B,M: opcode 0x46, 1 byte (R81). -/
  | movBM
  /-- MOV B,A: opcode 0x47, 1 byte (R80). -/
  | movBA
  /-- MOV C,B: opcode 0x48, 1 byte (R80). -/
  | movCB
  /-- MOV C,C: opcode 0x49, 1 byte (R80). -/
  | movCC
  /-- MOV C,D: opcode 0x4A, 1 byte (R80). -/
  | movCD
  /-- MOV C,E: opcode 0x4B, 1 byte (R80). -/
  | movCE
  /-- MOV C,H: opcode 0x4C, 1 byte (R80). -/
  | movCH
  /-- MOV C,L: opcode 0x4D, 1 byte (R80). -/
  | movCL
  /-- MOV C,M: opcode 0x4E, 1 byte (R81). -/
  | movCM
  /-- MOV C,A: opcode 0x4F, 1 byte (R80). -/
  | movCA
  /-- MOV D,B: opcode 0x50, 1 byte (R80). -/
  | movDB
  /-- MOV D,C: opcode 0x51, 1 byte (R80). -/
  | movDC
  /-- MOV D,D: opcode 0x52, 1 byte (R80). -/
  | movDD
  /-- MOV D,E: opcode 0x53, 1 byte (R80). -/
  | movDE
  /-- MOV D,H: opcode 0x54, 1 byte (R80). -/
  | movDH
  /-- MOV D,L: opcode 0x55, 1 byte (R80). -/
  | movDL
  /-- MOV D,M: opcode 0x56, 1 byte (R81). -/
  | movDM
  /-- MOV D,A: opcode 0x57, 1 byte (R80). -/
  | movDA
  /-- MOV E,B: opcode 0x58, 1 byte (R80). -/
  | movEB
  /-- MOV E,C: opcode 0x59, 1 byte (R80). -/
  | movEC
  /-- MOV E,D: opcode 0x5A, 1 byte (R80). -/
  | movED
  /-- MOV E,E: opcode 0x5B, 1 byte (R80). -/
  | movEE
  /-- MOV E,H: opcode 0x5C, 1 byte (R80). -/
  | movEH
  /-- MOV E,L: opcode 0x5D, 1 byte (R80). -/
  | movEL
  /-- MOV E,M: opcode 0x5E, 1 byte (R81). -/
  | movEM
  /-- MOV E,A: opcode 0x5F, 1 byte (R80). -/
  | movEA
  /-- MOV H,B: opcode 0x60, 1 byte (R80). -/
  | movHB
  /-- MOV H,C: opcode 0x61, 1 byte (R80). -/
  | movHC
  /-- MOV H,D: opcode 0x62, 1 byte (R80). -/
  | movHD
  /-- MOV H,E: opcode 0x63, 1 byte (R80). -/
  | movHE
  /-- MOV H,H: opcode 0x64, 1 byte (R80). -/
  | movHH
  /-- MOV H,L: opcode 0x65, 1 byte (R80). -/
  | movHL
  /-- MOV H,M: opcode 0x66, 1 byte (R81). -/
  | movHM
  /-- MOV H,A: opcode 0x67, 1 byte (R80). -/
  | movHA
  /-- MOV L,B: opcode 0x68, 1 byte (R80). -/
  | movLB
  /-- MOV L,C: opcode 0x69, 1 byte (R80). -/
  | movLC
  /-- MOV L,D: opcode 0x6A, 1 byte (R80). -/
  | movLD
  /-- MOV L,E: opcode 0x6B, 1 byte (R80). -/
  | movLE
  /-- MOV L,H: opcode 0x6C, 1 byte (R80). -/
  | movLH
  /-- MOV L,L: opcode 0x6D, 1 byte (R80). -/
  | movLL
  /-- MOV L,M: opcode 0x6E, 1 byte (R81). -/
  | movLM
  /-- MOV L,A: opcode 0x6F, 1 byte (R80). -/
  | movLA
  /-- MOV M,B: opcode 0x70, 1 byte (R82). -/
  | movMB
  /-- MOV M,C: opcode 0x71, 1 byte (R82). -/
  | movMC
  /-- MOV M,D: opcode 0x72, 1 byte (R82). -/
  | movMD
  /-- MOV M,E: opcode 0x73, 1 byte (R82). -/
  | movME
  /-- MOV M,H: opcode 0x74, 1 byte (R82). -/
  | movMH
  /-- MOV M,L: opcode 0x75, 1 byte (R82). -/
  | movML
  /-- HLT: opcode 0x76, 1 byte (R197). -/
  | hlt
  /-- MOV M,A: opcode 0x77, 1 byte (R82). -/
  | movMA
  /-- MOV A,B: opcode 0x78, 1 byte (R80). -/
  | movAB
  /-- MOV A,C: opcode 0x79, 1 byte (R80). -/
  | movAC
  /-- MOV A,D: opcode 0x7A, 1 byte (R80). -/
  | movAD
  /-- MOV A,E: opcode 0x7B, 1 byte (R80). -/
  | movAE
  /-- MOV A,H: opcode 0x7C, 1 byte (R80). -/
  | movAH
  /-- MOV A,L: opcode 0x7D, 1 byte (R80). -/
  | movAL
  /-- MOV A,M: opcode 0x7E, 1 byte (R81). -/
  | movAM
  /-- MOV A,A: opcode 0x7F, 1 byte (R80). -/
  | movAA
  /-- ADD B: opcode 0x80, 1 byte (R100). -/
  | addB
  /-- ADD C: opcode 0x81, 1 byte (R100). -/
  | addC
  /-- ADD D: opcode 0x82, 1 byte (R100). -/
  | addD
  /-- ADD E: opcode 0x83, 1 byte (R100). -/
  | addE
  /-- ADD H: opcode 0x84, 1 byte (R100). -/
  | addH
  /-- ADD L: opcode 0x85, 1 byte (R100). -/
  | addL
  /-- ADD M: opcode 0x86, 1 byte (R101). -/
  | addM
  /-- ADD A: opcode 0x87, 1 byte (R100). -/
  | addA
  /-- ADC B: opcode 0x88, 1 byte (R102). -/
  | adcB
  /-- ADC C: opcode 0x89, 1 byte (R102). -/
  | adcC
  /-- ADC D: opcode 0x8A, 1 byte (R102). -/
  | adcD
  /-- ADC E: opcode 0x8B, 1 byte (R102). -/
  | adcE
  /-- ADC H: opcode 0x8C, 1 byte (R102). -/
  | adcH
  /-- ADC L: opcode 0x8D, 1 byte (R102). -/
  | adcL
  /-- ADC M: opcode 0x8E, 1 byte (R103). -/
  | adcM
  /-- ADC A: opcode 0x8F, 1 byte (R102). -/
  | adcA
  /-- SUB B: opcode 0x90, 1 byte (R104). -/
  | subB
  /-- SUB C: opcode 0x91, 1 byte (R104). -/
  | subC
  /-- SUB D: opcode 0x92, 1 byte (R104). -/
  | subD
  /-- SUB E: opcode 0x93, 1 byte (R104). -/
  | subE
  /-- SUB H: opcode 0x94, 1 byte (R104). -/
  | subH
  /-- SUB L: opcode 0x95, 1 byte (R104). -/
  | subL
  /-- SUB M: opcode 0x96, 1 byte (R105). -/
  | subM
  /-- SUB A: opcode 0x97, 1 byte (R104). -/
  | subA
  /-- SBB B: opcode 0x98, 1 byte (R106). -/
  | sbbB
  /-- SBB C: opcode 0x99, 1 byte (R106). -/
  | sbbC
  /-- SBB D: opcode 0x9A, 1 byte (R106). -/
  | sbbD
  /-- SBB E: opcode 0x9B, 1 byte (R106). -/
  | sbbE
  /-- SBB H: opcode 0x9C, 1 byte (R106). -/
  | sbbH
  /-- SBB L: opcode 0x9D, 1 byte (R106). -/
  | sbbL
  /-- SBB M: opcode 0x9E, 1 byte (R107). -/
  | sbbM
  /-- SBB A: opcode 0x9F, 1 byte (R106). -/
  | sbbA
  /-- ANA B: opcode 0xA0, 1 byte (R130). -/
  | anaB
  /-- ANA C: opcode 0xA1, 1 byte (R130). -/
  | anaC
  /-- ANA D: opcode 0xA2, 1 byte (R130). -/
  | anaD
  /-- ANA E: opcode 0xA3, 1 byte (R130). -/
  | anaE
  /-- ANA H: opcode 0xA4, 1 byte (R130). -/
  | anaH
  /-- ANA L: opcode 0xA5, 1 byte (R130). -/
  | anaL
  /-- ANA M: opcode 0xA6, 1 byte (R131). -/
  | anaM
  /-- ANA A: opcode 0xA7, 1 byte (R130). -/
  | anaA
  /-- XRA B: opcode 0xA8, 1 byte (R132). -/
  | xraB
  /-- XRA C: opcode 0xA9, 1 byte (R132). -/
  | xraC
  /-- XRA D: opcode 0xAA, 1 byte (R132). -/
  | xraD
  /-- XRA E: opcode 0xAB, 1 byte (R132). -/
  | xraE
  /-- XRA H: opcode 0xAC, 1 byte (R132). -/
  | xraH
  /-- XRA L: opcode 0xAD, 1 byte (R132). -/
  | xraL
  /-- XRA M: opcode 0xAE, 1 byte (R133). -/
  | xraM
  /-- XRA A: opcode 0xAF, 1 byte (R132). -/
  | xraA
  /-- ORA B: opcode 0xB0, 1 byte (R134). -/
  | oraB
  /-- ORA C: opcode 0xB1, 1 byte (R134). -/
  | oraC
  /-- ORA D: opcode 0xB2, 1 byte (R134). -/
  | oraD
  /-- ORA E: opcode 0xB3, 1 byte (R134). -/
  | oraE
  /-- ORA H: opcode 0xB4, 1 byte (R134). -/
  | oraH
  /-- ORA L: opcode 0xB5, 1 byte (R134). -/
  | oraL
  /-- ORA M: opcode 0xB6, 1 byte (R135). -/
  | oraM
  /-- ORA A: opcode 0xB7, 1 byte (R134). -/
  | oraA
  /-- CMP B: opcode 0xB8, 1 byte (R136). -/
  | cmpB
  /-- CMP C: opcode 0xB9, 1 byte (R136). -/
  | cmpC
  /-- CMP D: opcode 0xBA, 1 byte (R136). -/
  | cmpD
  /-- CMP E: opcode 0xBB, 1 byte (R136). -/
  | cmpE
  /-- CMP H: opcode 0xBC, 1 byte (R136). -/
  | cmpH
  /-- CMP L: opcode 0xBD, 1 byte (R136). -/
  | cmpL
  /-- CMP M: opcode 0xBE, 1 byte (R137). -/
  | cmpM
  /-- CMP A: opcode 0xBF, 1 byte (R136). -/
  | cmpA
  /-- RNZ: opcode 0xC0, 1 byte (R168). -/
  | rnz
  /-- POP B: opcode 0xC1, 1 byte (R172). -/
  | popB
  /-- JNZ a16: opcode 0xC2, 3 bytes (R161). -/
  | jnz (a16 : Word)
  /-- JMP a16: opcode 0xC3, 3 bytes (R160). -/
  | jmp (a16 : Word)
  /-- CNZ a16: opcode 0xC4, 3 bytes (R166). -/
  | cnz (a16 : Word)
  /-- PUSH B: opcode 0xC5, 1 byte (R170). -/
  | pushB
  /-- ADI d8: opcode 0xC6, 2 bytes (R108). -/
  | adi (d8 : Byte)
  /-- RST 0: opcode 0xC7, 1 byte (R169). -/
  | rst0
  /-- RZ: opcode 0xC8, 1 byte (R168). -/
  | rz
  /-- RET: opcode 0xC9, 1 byte (R167). -/
  | ret
  /-- JZ a16: opcode 0xCA, 3 bytes (R161). -/
  | jz (a16 : Word)
  /-- CZ a16: opcode 0xCC, 3 bytes (R166). -/
  | cz (a16 : Word)
  /-- CALL a16: opcode 0xCD, 3 bytes (R165). -/
  | call (a16 : Word)
  /-- ACI d8: opcode 0xCE, 2 bytes (R109). -/
  | aci (d8 : Byte)
  /-- RST 1: opcode 0xCF, 1 byte (R169). -/
  | rst1
  /-- RNC: opcode 0xD0, 1 byte (R168). -/
  | rnc
  /-- POP D: opcode 0xD1, 1 byte (R172). -/
  | popD
  /-- JNC a16: opcode 0xD2, 3 bytes (R161). -/
  | jnc (a16 : Word)
  /-- OUT p8: opcode 0xD3, 2 bytes (R217). -/
  | outPort (p8 : Byte)
  /-- CNC a16: opcode 0xD4, 3 bytes (R166). -/
  | cnc (a16 : Word)
  /-- PUSH D: opcode 0xD5, 1 byte (R170). -/
  | pushD
  /-- SUI d8: opcode 0xD6, 2 bytes (R110). -/
  | sui (d8 : Byte)
  /-- RST 2: opcode 0xD7, 1 byte (R169). -/
  | rst2
  /-- RC: opcode 0xD8, 1 byte (R168). -/
  | rc
  /-- JC a16: opcode 0xDA, 3 bytes (R161). -/
  | jc (a16 : Word)
  /-- IN p8: opcode 0xDB, 2 bytes (R216). -/
  | inPort (p8 : Byte)
  /-- CC a16: opcode 0xDC, 3 bytes (R166). -/
  | cc (a16 : Word)
  /-- SBI d8: opcode 0xDE, 2 bytes (R111). -/
  | sbi (d8 : Byte)
  /-- RST 3: opcode 0xDF, 1 byte (R169). -/
  | rst3
  /-- RPO: opcode 0xE0, 1 byte (R168). -/
  | rpo
  /-- POP H: opcode 0xE1, 1 byte (R172). -/
  | popH
  /-- JPO a16: opcode 0xE2, 3 bytes (R161). -/
  | jpo (a16 : Word)
  /-- XTHL: opcode 0xE3, 1 byte (R174). -/
  | xthl
  /-- CPO a16: opcode 0xE4, 3 bytes (R166). -/
  | cpo (a16 : Word)
  /-- PUSH H: opcode 0xE5, 1 byte (R170). -/
  | pushH
  /-- ANI d8: opcode 0xE6, 2 bytes (R138). -/
  | ani (d8 : Byte)
  /-- RST 4: opcode 0xE7, 1 byte (R169). -/
  | rst4
  /-- RPE: opcode 0xE8, 1 byte (R168). -/
  | rpe
  /-- PCHL: opcode 0xE9, 1 byte (R162). -/
  | pchl
  /-- JPE a16: opcode 0xEA, 3 bytes (R161). -/
  | jpe (a16 : Word)
  /-- XCHG: opcode 0xEB, 1 byte (R87). -/
  | xchg
  /-- CPE a16: opcode 0xEC, 3 bytes (R166). -/
  | cpe (a16 : Word)
  /-- XRI d8: opcode 0xEE, 2 bytes (R139). -/
  | xri (d8 : Byte)
  /-- RST 5: opcode 0xEF, 1 byte (R169). -/
  | rst5
  /-- RP: opcode 0xF0, 1 byte (R168). -/
  | rp
  /-- POP PSW: opcode 0xF1, 1 byte (R173). -/
  | popPSW
  /-- JP a16: opcode 0xF2, 3 bytes (R161). -/
  | jp (a16 : Word)
  /-- DI: opcode 0xF3, 1 byte (R196). -/
  | di
  /-- CP a16: opcode 0xF4, 3 bytes (R166). -/
  | cp (a16 : Word)
  /-- PUSH PSW: opcode 0xF5, 1 byte (R171). -/
  | pushPSW
  /-- ORI d8: opcode 0xF6, 2 bytes (R140). -/
  | ori (d8 : Byte)
  /-- RST 6: opcode 0xF7, 1 byte (R169). -/
  | rst6
  /-- RM: opcode 0xF8, 1 byte (R168). -/
  | rm
  /-- SPHL: opcode 0xF9, 1 byte (R175). -/
  | sphl
  /-- JM a16: opcode 0xFA, 3 bytes (R161). -/
  | jm (a16 : Word)
  /-- EI: opcode 0xFB, 1 byte (R195). -/
  | ei
  /-- CM a16: opcode 0xFC, 3 bytes (R166). -/
  | cm (a16 : Word)
  /-- CPI d8: opcode 0xFE, 2 bytes (R141). -/
  | cpi (d8 : Byte)
  /-- RST 7: opcode 0xFF, 1 byte (R169). -/
  | rst7
  deriving DecidableEq, Repr

end Sys2Proof
end

