-- ==== Sys2Proof/WellFormed.lean ====
section
/-! DEFINITION. What is well-formed: every instruction of the syntax (R64: "Operand bytes have no reserved values", R239:
"No operand value is illegal"), and a configuration that passes the four checks R4 asks of its parameters. The form of
memory is checked by `Machine.Memory.wf`, an image's length by `Machine.resetWith`. -/
namespace Sys2Proof

/-- Every instruction is well-formed: operands have the encoding's own widths, and no value of one is reserved (R64, R239). -/
def Instr.wellFormed (_ : Instr) : Bool := true

/-- MEM_SIZE is at least 1 (R4). -/
def Config.memSizePositive (c : Config) : Bool := decide (1 ≤ c.memSize)

/-- MEM_SIZE is at most 65536, the range of a 16-bit address (R4, R30). -/
def Config.memSizeAddressable (c : Config) : Bool := decide (c.memSize ≤ 65536)

/-- UNDEF_SET holds alias opcodes only: "the 244 documented opcodes are always defined" (R64). -/
def Config.undefOnlyAliases (c : Config) : Bool := c.undefSet.all (aliasOpcodes.contains ·)

/-- PortIn is a function of the port number: no port is listed twice (R4, R216). -/
def Config.portsDistinct (c : Config) : Bool := decide ((c.portIn.map Prod.fst).Nodup)

/-- A configuration R4 allows. -/
def Config.wellFormed (c : Config) : Bool :=
  c.memSizePositive && c.memSizeAddressable && c.undefOnlyAliases && c.portsDistinct

end Sys2Proof
end

