-- ==== Sys2Proof/Decode.lean ====
section
/-! DEFINITION. The decoder and the encoder. The decoder reads the fields of the opcode byte (R52) by the code tables of
R53 to R56 and the quadrant maps of R59 to R62; the encoder is written independently of it, from the opcode values of
`spec/opcode_table.json`. The whole opcode map is [from general knowledge, not in source] (D22; assumption log 11). -/
namespace Sys2Proof

/-! ## Bytes of a 16-bit value -/

/-- `hi : lo`, the first-named byte high (R8, R11, R57). -/
def joinBytes (hi lo : Byte) : Word := hi ++ lo

/-- Bits 15:8 of a 16-bit value. -/
def hiByte (w : Word) : Byte := w.extractLsb' 8 8

/-- Bits 7:0 of a 16-bit value. -/
def loByte (w : Word) : Byte := w.extractLsb' 0 8

/-! ## Field codes (R53 to R56) -/

/-- The 8-bit operand of a `ddd` or `sss` code (R53). -/
def operandOfCode (c : BitVec 3) : Operand8 :=
  match c with
  | 0b000#3 => .reg .B
  | 0b001#3 => .reg .C
  | 0b010#3 => .reg .D
  | 0b011#3 => .reg .E
  | 0b100#3 => .reg .H
  | 0b101#3 => .reg .L
  | 0b110#3 => .M
  | 0b111#3 => .reg .A

/-- The pair of an `rp` code in LXI, INX, DCX and DAD (R54). -/
def pairOfCode (c : BitVec 2) : Pair :=
  match c with
  | 0b00#2 => .rp .BC
  | 0b01#2 => .rp .DE
  | 0b10#2 => .rp .HL
  | 0b11#2 => .SP

/-- The condition of a `ccc` code (R55). -/
def condOfCode (c : BitVec 3) : Cond :=
  match c with
  | 0b000#3 => .NZ
  | 0b001#3 => .Z
  | 0b010#3 => .NC
  | 0b011#3 => .C
  | 0b100#3 => .PO
  | 0b101#3 => .PE
  | 0b110#3 => .P
  | 0b111#3 => .M

/-- The operation of an `alu` code (R56). -/
def aluOfCode (c : BitVec 3) : AluOp :=
  match c with
  | 0b000#3 => .ADD
  | 0b001#3 => .ADC
  | 0b010#3 => .SUB
  | 0b011#3 => .SBB
  | 0b100#3 => .ANA
  | 0b101#3 => .XRA
  | 0b110#3 => .ORA
  | 0b111#3 => .CMP

/-! ## The instruction of an operand: one constructor per operand value -/

/-- MOV d,r, both registers (R80). -/
def movOf (d r : Reg) : Instr :=
  match d, r with
  | .B, .B => .movBB
  | .B, .C => .movBC
  | .B, .D => .movBD
  | .B, .E => .movBE
  | .B, .H => .movBH
  | .B, .L => .movBL
  | .B, .A => .movBA
  | .C, .B => .movCB
  | .C, .C => .movCC
  | .C, .D => .movCD
  | .C, .E => .movCE
  | .C, .H => .movCH
  | .C, .L => .movCL
  | .C, .A => .movCA
  | .D, .B => .movDB
  | .D, .C => .movDC
  | .D, .D => .movDD
  | .D, .E => .movDE
  | .D, .H => .movDH
  | .D, .L => .movDL
  | .D, .A => .movDA
  | .E, .B => .movEB
  | .E, .C => .movEC
  | .E, .D => .movED
  | .E, .E => .movEE
  | .E, .H => .movEH
  | .E, .L => .movEL
  | .E, .A => .movEA
  | .H, .B => .movHB
  | .H, .C => .movHC
  | .H, .D => .movHD
  | .H, .E => .movHE
  | .H, .H => .movHH
  | .H, .L => .movHL
  | .H, .A => .movHA
  | .L, .B => .movLB
  | .L, .C => .movLC
  | .L, .D => .movLD
  | .L, .E => .movLE
  | .L, .H => .movLH
  | .L, .L => .movLL
  | .L, .A => .movLA
  | .A, .B => .movAB
  | .A, .C => .movAC
  | .A, .D => .movAD
  | .A, .E => .movAE
  | .A, .H => .movAH
  | .A, .L => .movAL
  | .A, .A => .movAA

/-- MOV r,M (R81). -/
def movFromMOf (r : Reg) : Instr :=
  match r with
  | .B => .movBM
  | .C => .movCM
  | .D => .movDM
  | .E => .movEM
  | .H => .movHM
  | .L => .movLM
  | .A => .movAM

/-- MOV M,r (R82). -/
def movToMOf (r : Reg) : Instr :=
  match r with
  | .B => .movMB
  | .C => .movMC
  | .D => .movMD
  | .E => .movME
  | .H => .movMH
  | .L => .movML
  | .A => .movMA

/-- MVI r,d8 (R84). -/
def mviOf (r : Reg) (d8 : Byte) : Instr :=
  match r with
  | .B => .mviB d8
  | .C => .mviC d8
  | .D => .mviD d8
  | .E => .mviE d8
  | .H => .mviH d8
  | .L => .mviL d8
  | .A => .mviA d8

/-- INR r (R112). -/
def inrOf (r : Reg) : Instr :=
  match r with
  | .B => .inrB
  | .C => .inrC
  | .D => .inrD
  | .E => .inrE
  | .H => .inrH
  | .L => .inrL
  | .A => .inrA

/-- DCR r (R114). -/
def dcrOf (r : Reg) : Instr :=
  match r with
  | .B => .dcrB
  | .C => .dcrC
  | .D => .dcrD
  | .E => .dcrE
  | .H => .dcrH
  | .L => .dcrL
  | .A => .dcrA

/-- The accumulator operation `op` on a register (R61, R100 to R106, R130 to R136). -/
def aluRegOf (op : AluOp) (r : Reg) : Instr :=
  match op, r with
  | .ADD, .B => .addB
  | .ADD, .C => .addC
  | .ADD, .D => .addD
  | .ADD, .E => .addE
  | .ADD, .H => .addH
  | .ADD, .L => .addL
  | .ADD, .A => .addA
  | .ADC, .B => .adcB
  | .ADC, .C => .adcC
  | .ADC, .D => .adcD
  | .ADC, .E => .adcE
  | .ADC, .H => .adcH
  | .ADC, .L => .adcL
  | .ADC, .A => .adcA
  | .SUB, .B => .subB
  | .SUB, .C => .subC
  | .SUB, .D => .subD
  | .SUB, .E => .subE
  | .SUB, .H => .subH
  | .SUB, .L => .subL
  | .SUB, .A => .subA
  | .SBB, .B => .sbbB
  | .SBB, .C => .sbbC
  | .SBB, .D => .sbbD
  | .SBB, .E => .sbbE
  | .SBB, .H => .sbbH
  | .SBB, .L => .sbbL
  | .SBB, .A => .sbbA
  | .ANA, .B => .anaB
  | .ANA, .C => .anaC
  | .ANA, .D => .anaD
  | .ANA, .E => .anaE
  | .ANA, .H => .anaH
  | .ANA, .L => .anaL
  | .ANA, .A => .anaA
  | .XRA, .B => .xraB
  | .XRA, .C => .xraC
  | .XRA, .D => .xraD
  | .XRA, .E => .xraE
  | .XRA, .H => .xraH
  | .XRA, .L => .xraL
  | .XRA, .A => .xraA
  | .ORA, .B => .oraB
  | .ORA, .C => .oraC
  | .ORA, .D => .oraD
  | .ORA, .E => .oraE
  | .ORA, .H => .oraH
  | .ORA, .L => .oraL
  | .ORA, .A => .oraA
  | .CMP, .B => .cmpB
  | .CMP, .C => .cmpC
  | .CMP, .D => .cmpD
  | .CMP, .E => .cmpE
  | .CMP, .H => .cmpH
  | .CMP, .L => .cmpL
  | .CMP, .A => .cmpA

/-- The accumulator operation `op` on M (R61, R101 to R107, R131 to R137). -/
def aluMOf (op : AluOp) : Instr :=
  match op with
  | .ADD => .addM
  | .ADC => .adcM
  | .SUB => .subM
  | .SBB => .sbbM
  | .ANA => .anaM
  | .XRA => .xraM
  | .ORA => .oraM
  | .CMP => .cmpM

/-- The accumulator operation `op` on an immediate byte (R56, R108 to R111, R138 to R141). -/
def aluImmOf (op : AluOp) (d8 : Byte) : Instr :=
  match op with
  | .ADD => .adi d8
  | .ADC => .aci d8
  | .SUB => .sui d8
  | .SBB => .sbi d8
  | .ANA => .ani d8
  | .XRA => .xri d8
  | .ORA => .ori d8
  | .CMP => .cpi d8

/-- LXI rp,d16 (R86). -/
def lxiOf (p : Pair) (d16 : Word) : Instr :=
  match p with
  | .rp .BC => .lxiB d16
  | .rp .DE => .lxiD d16
  | .rp .HL => .lxiH d16
  | .SP => .lxiSP d16

/-- INX rp (R116). -/
def inxOf (p : Pair) : Instr :=
  match p with
  | .rp .BC => .inxB
  | .rp .DE => .inxD
  | .rp .HL => .inxH
  | .SP => .inxSP

/-- DCX rp (R117). -/
def dcxOf (p : Pair) : Instr :=
  match p with
  | .rp .BC => .dcxB
  | .rp .DE => .dcxD
  | .rp .HL => .dcxH
  | .SP => .dcxSP

/-- DAD rp (R118). -/
def dadOf (p : Pair) : Instr :=
  match p with
  | .rp .BC => .dadB
  | .rp .DE => .dadD
  | .rp .HL => .dadH
  | .SP => .dadSP

/-- PUSH rp (R170). -/
def pushOf (p : RegPair) : Instr :=
  match p with
  | .BC => .pushB
  | .DE => .pushD
  | .HL => .pushH

/-- POP rp (R172). -/
def popOf (p : RegPair) : Instr :=
  match p with
  | .BC => .popB
  | .DE => .popD
  | .HL => .popH

/-- Jcc a16 (R161). -/
def jccOf (c : Cond) (a16 : Word) : Instr :=
  match c with
  | .NZ => .jnz a16
  | .Z => .jz a16
  | .NC => .jnc a16
  | .C => .jc a16
  | .PO => .jpo a16
  | .PE => .jpe a16
  | .P => .jp a16
  | .M => .jm a16

/-- Ccc a16 (R166). -/
def cccOf (c : Cond) (a16 : Word) : Instr :=
  match c with
  | .NZ => .cnz a16
  | .Z => .cz a16
  | .NC => .cnc a16
  | .C => .cc a16
  | .PO => .cpo a16
  | .PE => .cpe a16
  | .P => .cp a16
  | .M => .cm a16

/-- Rcc (R168). -/
def rccOf (c : Cond) : Instr :=
  match c with
  | .NZ => .rnz
  | .Z => .rz
  | .NC => .rnc
  | .C => .rc
  | .PO => .rpo
  | .PE => .rpe
  | .P => .rp
  | .M => .rm

/-- RST n (R169); `n` is the field `nnn`, an unsigned number 0 to 7 (R57). -/
def rstOf (n : BitVec 3) : Instr :=
  match n with
  | 0b000#3 => .rst0
  | 0b001#3 => .rst1
  | 0b010#3 => .rst2
  | 0b011#3 => .rst3
  | 0b100#3 => .rst4
  | 0b101#3 => .rst5
  | 0b110#3 => .rst6
  | 0b111#3 => .rst7

/-! ## The decoder -/

/-- Bits 7:6 of the opcode byte, the quadrant (R52). -/
def fieldQ (op : Byte) : BitVec 2 := op.extractLsb' 6 2

/-- Bits 5:3 of the opcode byte: `ddd`, `ccc`, `nnn` or `alu` (R52). -/
def fieldY (op : Byte) : BitVec 3 := op.extractLsb' 3 3

/-- Bits 2:0 of the opcode byte: `sss` or a sub-opcode (R52). -/
def fieldZ (op : Byte) : BitVec 3 := op.extractLsb' 0 3

/-- Bits 5:4 of the opcode byte, `rp` (R52). -/
def fieldRp (op : Byte) : BitVec 2 := op.extractLsb' 4 2

/-- MVI r,d8 or MVI M,d8 (R84, R85). -/
def mviOperand (o : Operand8) (d8 : Byte) : Instr :=
  match o with
  | .reg r => mviOf r d8
  | .M => .mviM d8

/-- INR r or INR M (R112, R113). -/
def inrOperand (o : Operand8) : Instr :=
  match o with
  | .reg r => inrOf r
  | .M => .inrM

/-- DCR r or DCR M (R114, R115). -/
def dcrOperand (o : Operand8) : Instr :=
  match o with
  | .reg r => dcrOf r
  | .M => .dcrM

/-- Quadrant 0 (R59): the row is selected by bits 2:0, and by bit 3 or bits 5:3 where the rule shows it.
Row `000` is NOP and its seven aliases (R63). -/
def decodeQuadrant0 (op b2 b3 : Byte) : Instr :=
  let y := fieldY op
  match fieldZ op with
  | 0b000#3 => .nop
  | 0b001#3 => if op.getLsbD 3 then dadOf (pairOfCode (fieldRp op)) else lxiOf (pairOfCode (fieldRp op)) (joinBytes b3 b2)
  | 0b010#3 =>
    match y with
    | 0b000#3 => .staxB
    | 0b001#3 => .ldaxB
    | 0b010#3 => .staxD
    | 0b011#3 => .ldaxD
    | 0b100#3 => .shld (joinBytes b3 b2)
    | 0b101#3 => .lhld (joinBytes b3 b2)
    | 0b110#3 => .sta (joinBytes b3 b2)
    | 0b111#3 => .lda (joinBytes b3 b2)
  | 0b011#3 => if op.getLsbD 3 then dcxOf (pairOfCode (fieldRp op)) else inxOf (pairOfCode (fieldRp op))
  | 0b100#3 => inrOperand (operandOfCode y)
  | 0b101#3 => dcrOperand (operandOfCode y)
  | 0b110#3 => mviOperand (operandOfCode y) b2
  | 0b111#3 =>
    match y with
    | 0b000#3 => .rlc
    | 0b001#3 => .rrc
    | 0b010#3 => .ral
    | 0b011#3 => .rar
    | 0b100#3 => .daa
    | 0b101#3 => .cma
    | 0b110#3 => .stc
    | 0b111#3 => .cmc

/-- Quadrant 1 (R60): MOV, and HLT where both operands would be M. -/
def decodeQuadrant1 (op : Byte) : Instr :=
  match operandOfCode (fieldY op), operandOfCode (fieldZ op) with
  | .reg d, .reg r => movOf d r
  | .reg d, .M => movFromMOf d
  | .M, .reg r => movToMOf r
  | .M, .M => .hlt

/-- Quadrant 2 (R61): the accumulator operation of bits 5:3 on the operand of bits 2:0. -/
def decodeQuadrant2 (op : Byte) : Instr :=
  match operandOfCode (fieldZ op) with
  | .reg r => aluRegOf (aluOfCode (fieldY op)) r
  | .M => aluMOf (aluOfCode (fieldY op))

/-- Quadrant 3 (R62), with the aliases of RET, JMP and CALL (R63). -/
def decodeQuadrant3 (op b2 b3 : Byte) : Instr :=
  let y := fieldY op
  match fieldZ op with
  | 0b000#3 => rccOf (condOfCode y)
  | 0b001#3 =>
    match y with
    | 0b000#3 => .popB
    | 0b001#3 => .ret
    | 0b010#3 => .popD
    | 0b011#3 => .ret
    | 0b100#3 => .popH
    | 0b101#3 => .pchl
    | 0b110#3 => .popPSW
    | 0b111#3 => .sphl
  | 0b010#3 => jccOf (condOfCode y) (joinBytes b3 b2)
  | 0b011#3 =>
    match y with
    | 0b000#3 => .jmp (joinBytes b3 b2)
    | 0b001#3 => .jmp (joinBytes b3 b2)
    | 0b010#3 => .outPort b2
    | 0b011#3 => .inPort b2
    | 0b100#3 => .xthl
    | 0b101#3 => .xchg
    | 0b110#3 => .di
    | 0b111#3 => .ei
  | 0b100#3 => cccOf (condOfCode y) (joinBytes b3 b2)
  | 0b101#3 =>
    match y with
    | 0b000#3 => .pushB
    | 0b001#3 => .call (joinBytes b3 b2)
    | 0b010#3 => .pushD
    | 0b011#3 => .call (joinBytes b3 b2)
    | 0b100#3 => .pushH
    | 0b101#3 => .call (joinBytes b3 b2)
    | 0b110#3 => .pushPSW
    | 0b111#3 => .call (joinBytes b3 b2)
  | 0b110#3 => aluImmOf (aluOfCode y) b2
  | 0b111#3 => rstOf y

/-- The instruction of an opcode byte and the two bytes after it; the bytes beyond the opcode's length are not looked at.
Every opcode value is defined (R58, R63, R64); UNDEF_SET is applied before this function, by `decode` and by the fetch. -/
def decodeOpcode (op b2 b3 : Byte) : Instr :=
  match fieldQ op with
  | 0b00#2 => decodeQuadrant0 op b2 b3
  | 0b01#2 => decodeQuadrant1 op
  | 0b10#2 => decodeQuadrant2 op
  | 0b11#2 => decodeQuadrant3 op b2 b3

/-- `Length(op)` (R58), clause by clause. -/
def opcodeLength (op : Byte) : Nat :=
  if [0x01, 0x11, 0x21, 0x31, 0x22, 0x2A, 0x32, 0x3A].contains op then 3
  else if fieldQ op = 0b11 ∧ fieldZ op = 0b010 then 3
  else if fieldQ op = 0b11 ∧ fieldZ op = 0b100 then 3
  else if [0xC3, 0xCB, 0xCD, 0xDD, 0xED, 0xFD].contains op then 3
  else if fieldQ op = 0b00 ∧ fieldZ op = 0b110 then 2
  else if fieldQ op = 0b11 ∧ fieldZ op = 0b110 then 2
  else if [0xD3, 0xDB].contains op then 2
  else 1

/-- Why the decoder refuses a list of bytes. -/
inductive DecodeReject where
  /-- No byte to decode. -/
  | noByte
  /-- The opcode is in UNDEF_SET (R64, R233). -/
  | undefinedOpcode (op : Byte)
  /-- The list ends before the operand bytes the opcode declares (R45). -/
  | operandMissing (op : Byte)
  deriving DecidableEq, Repr

/-- Decode the instruction at the head of a list of bytes under the UNDEF_SET `undef`, and give the bytes after it.
UNDEF_SET is looked up before any operand byte (R64). -/
def decode (undef : List Byte) (bytes : List Byte) : Except DecodeReject (Instr × List Byte) :=
  match bytes with
  | [] => .error .noByte
  | op :: rest =>
    if undef.contains op then .error (.undefinedOpcode op)
    else if opcodeLength op = 1 then .ok (decodeOpcode op 0 0, rest)
    else if opcodeLength op = 2 then
      match rest with
      | b2 :: rest => .ok (decodeOpcode op b2 0, rest)
      | [] => .error (.operandMissing op)
    else
      match rest with
      | b2 :: b3 :: rest => .ok (decodeOpcode op b2 b3, rest)
      | _ :: [] => .error (.operandMissing op)
      | [] => .error (.operandMissing op)

/-! ## The encoder -/

/-- The opcode value of an instruction, as `spec/opcode_table.json` lists it (the canonical one where aliases exist). -/
def opcode (i : Instr) : Byte :=
  match i with
  | .nop => 0x00
  | .lxiB _ => 0x01
  | .staxB => 0x02
  | .inxB => 0x03
  | .inrB => 0x04
  | .dcrB => 0x05
  | .mviB _ => 0x06
  | .rlc => 0x07
  | .dadB => 0x09
  | .ldaxB => 0x0A
  | .dcxB => 0x0B
  | .inrC => 0x0C
  | .dcrC => 0x0D
  | .mviC _ => 0x0E
  | .rrc => 0x0F
  | .lxiD _ => 0x11
  | .staxD => 0x12
  | .inxD => 0x13
  | .inrD => 0x14
  | .dcrD => 0x15
  | .mviD _ => 0x16
  | .ral => 0x17
  | .dadD => 0x19
  | .ldaxD => 0x1A
  | .dcxD => 0x1B
  | .inrE => 0x1C
  | .dcrE => 0x1D
  | .mviE _ => 0x1E
  | .rar => 0x1F
  | .lxiH _ => 0x21
  | .shld _ => 0x22
  | .inxH => 0x23
  | .inrH => 0x24
  | .dcrH => 0x25
  | .mviH _ => 0x26
  | .daa => 0x27
  | .dadH => 0x29
  | .lhld _ => 0x2A
  | .dcxH => 0x2B
  | .inrL => 0x2C
  | .dcrL => 0x2D
  | .mviL _ => 0x2E
  | .cma => 0x2F
  | .lxiSP _ => 0x31
  | .sta _ => 0x32
  | .inxSP => 0x33
  | .inrM => 0x34
  | .dcrM => 0x35
  | .mviM _ => 0x36
  | .stc => 0x37
  | .dadSP => 0x39
  | .lda _ => 0x3A
  | .dcxSP => 0x3B
  | .inrA => 0x3C
  | .dcrA => 0x3D
  | .mviA _ => 0x3E
  | .cmc => 0x3F
  | .movBB => 0x40
  | .movBC => 0x41
  | .movBD => 0x42
  | .movBE => 0x43
  | .movBH => 0x44
  | .movBL => 0x45
  | .movBM => 0x46
  | .movBA => 0x47
  | .movCB => 0x48
  | .movCC => 0x49
  | .movCD => 0x4A
  | .movCE => 0x4B
  | .movCH => 0x4C
  | .movCL => 0x4D
  | .movCM => 0x4E
  | .movCA => 0x4F
  | .movDB => 0x50
  | .movDC => 0x51
  | .movDD => 0x52
  | .movDE => 0x53
  | .movDH => 0x54
  | .movDL => 0x55
  | .movDM => 0x56
  | .movDA => 0x57
  | .movEB => 0x58
  | .movEC => 0x59
  | .movED => 0x5A
  | .movEE => 0x5B
  | .movEH => 0x5C
  | .movEL => 0x5D
  | .movEM => 0x5E
  | .movEA => 0x5F
  | .movHB => 0x60
  | .movHC => 0x61
  | .movHD => 0x62
  | .movHE => 0x63
  | .movHH => 0x64
  | .movHL => 0x65
  | .movHM => 0x66
  | .movHA => 0x67
  | .movLB => 0x68
  | .movLC => 0x69
  | .movLD => 0x6A
  | .movLE => 0x6B
  | .movLH => 0x6C
  | .movLL => 0x6D
  | .movLM => 0x6E
  | .movLA => 0x6F
  | .movMB => 0x70
  | .movMC => 0x71
  | .movMD => 0x72
  | .movME => 0x73
  | .movMH => 0x74
  | .movML => 0x75
  | .hlt => 0x76
  | .movMA => 0x77
  | .movAB => 0x78
  | .movAC => 0x79
  | .movAD => 0x7A
  | .movAE => 0x7B
  | .movAH => 0x7C
  | .movAL => 0x7D
  | .movAM => 0x7E
  | .movAA => 0x7F
  | .addB => 0x80
  | .addC => 0x81
  | .addD => 0x82
  | .addE => 0x83
  | .addH => 0x84
  | .addL => 0x85
  | .addM => 0x86
  | .addA => 0x87
  | .adcB => 0x88
  | .adcC => 0x89
  | .adcD => 0x8A
  | .adcE => 0x8B
  | .adcH => 0x8C
  | .adcL => 0x8D
  | .adcM => 0x8E
  | .adcA => 0x8F
  | .subB => 0x90
  | .subC => 0x91
  | .subD => 0x92
  | .subE => 0x93
  | .subH => 0x94
  | .subL => 0x95
  | .subM => 0x96
  | .subA => 0x97
  | .sbbB => 0x98
  | .sbbC => 0x99
  | .sbbD => 0x9A
  | .sbbE => 0x9B
  | .sbbH => 0x9C
  | .sbbL => 0x9D
  | .sbbM => 0x9E
  | .sbbA => 0x9F
  | .anaB => 0xA0
  | .anaC => 0xA1
  | .anaD => 0xA2
  | .anaE => 0xA3
  | .anaH => 0xA4
  | .anaL => 0xA5
  | .anaM => 0xA6
  | .anaA => 0xA7
  | .xraB => 0xA8
  | .xraC => 0xA9
  | .xraD => 0xAA
  | .xraE => 0xAB
  | .xraH => 0xAC
  | .xraL => 0xAD
  | .xraM => 0xAE
  | .xraA => 0xAF
  | .oraB => 0xB0
  | .oraC => 0xB1
  | .oraD => 0xB2
  | .oraE => 0xB3
  | .oraH => 0xB4
  | .oraL => 0xB5
  | .oraM => 0xB6
  | .oraA => 0xB7
  | .cmpB => 0xB8
  | .cmpC => 0xB9
  | .cmpD => 0xBA
  | .cmpE => 0xBB
  | .cmpH => 0xBC
  | .cmpL => 0xBD
  | .cmpM => 0xBE
  | .cmpA => 0xBF
  | .rnz => 0xC0
  | .popB => 0xC1
  | .jnz _ => 0xC2
  | .jmp _ => 0xC3
  | .cnz _ => 0xC4
  | .pushB => 0xC5
  | .adi _ => 0xC6
  | .rst0 => 0xC7
  | .rz => 0xC8
  | .ret => 0xC9
  | .jz _ => 0xCA
  | .cz _ => 0xCC
  | .call _ => 0xCD
  | .aci _ => 0xCE
  | .rst1 => 0xCF
  | .rnc => 0xD0
  | .popD => 0xD1
  | .jnc _ => 0xD2
  | .outPort _ => 0xD3
  | .cnc _ => 0xD4
  | .pushD => 0xD5
  | .sui _ => 0xD6
  | .rst2 => 0xD7
  | .rc => 0xD8
  | .jc _ => 0xDA
  | .inPort _ => 0xDB
  | .cc _ => 0xDC
  | .sbi _ => 0xDE
  | .rst3 => 0xDF
  | .rpo => 0xE0
  | .popH => 0xE1
  | .jpo _ => 0xE2
  | .xthl => 0xE3
  | .cpo _ => 0xE4
  | .pushH => 0xE5
  | .ani _ => 0xE6
  | .rst4 => 0xE7
  | .rpe => 0xE8
  | .pchl => 0xE9
  | .jpe _ => 0xEA
  | .xchg => 0xEB
  | .cpe _ => 0xEC
  | .xri _ => 0xEE
  | .rst5 => 0xEF
  | .rp => 0xF0
  | .popPSW => 0xF1
  | .jp _ => 0xF2
  | .di => 0xF3
  | .cp _ => 0xF4
  | .pushPSW => 0xF5
  | .ori _ => 0xF6
  | .rst6 => 0xF7
  | .rm => 0xF8
  | .sphl => 0xF9
  | .jm _ => 0xFA
  | .ei => 0xFB
  | .cm _ => 0xFC
  | .cpi _ => 0xFE
  | .rst7 => 0xFF

/-- The operand bytes of an instruction, low byte first (R51, R57). -/
def operandBytes (i : Instr) : List Byte :=
  match i with
  | .mviB d8 => [d8]
  | .mviC d8 => [d8]
  | .mviD d8 => [d8]
  | .mviE d8 => [d8]
  | .mviH d8 => [d8]
  | .mviL d8 => [d8]
  | .mviM d8 => [d8]
  | .mviA d8 => [d8]
  | .adi d8 => [d8]
  | .aci d8 => [d8]
  | .outPort p8 => [p8]
  | .sui d8 => [d8]
  | .inPort p8 => [p8]
  | .sbi d8 => [d8]
  | .ani d8 => [d8]
  | .xri d8 => [d8]
  | .ori d8 => [d8]
  | .cpi d8 => [d8]
  | .lxiB d16 => [loByte d16, hiByte d16]
  | .lxiD d16 => [loByte d16, hiByte d16]
  | .lxiH d16 => [loByte d16, hiByte d16]
  | .shld a16 => [loByte a16, hiByte a16]
  | .lhld a16 => [loByte a16, hiByte a16]
  | .lxiSP d16 => [loByte d16, hiByte d16]
  | .sta a16 => [loByte a16, hiByte a16]
  | .lda a16 => [loByte a16, hiByte a16]
  | .jnz a16 => [loByte a16, hiByte a16]
  | .jmp a16 => [loByte a16, hiByte a16]
  | .cnz a16 => [loByte a16, hiByte a16]
  | .jz a16 => [loByte a16, hiByte a16]
  | .cz a16 => [loByte a16, hiByte a16]
  | .call a16 => [loByte a16, hiByte a16]
  | .jnc a16 => [loByte a16, hiByte a16]
  | .cnc a16 => [loByte a16, hiByte a16]
  | .jc a16 => [loByte a16, hiByte a16]
  | .cc a16 => [loByte a16, hiByte a16]
  | .jpo a16 => [loByte a16, hiByte a16]
  | .cpo a16 => [loByte a16, hiByte a16]
  | .jpe a16 => [loByte a16, hiByte a16]
  | .cpe a16 => [loByte a16, hiByte a16]
  | .jp a16 => [loByte a16, hiByte a16]
  | .cp a16 => [loByte a16, hiByte a16]
  | .jm a16 => [loByte a16, hiByte a16]
  | .cm a16 => [loByte a16, hiByte a16]
  | .nop | .staxB | .inxB | .inrB | .dcrB | .rlc | .dadB | .ldaxB | .dcxB | .inrC | .dcrC | .rrc | .staxD | .inxD
  | .inrD | .dcrD | .ral | .dadD | .ldaxD | .dcxD | .inrE | .dcrE | .rar | .inxH | .inrH | .dcrH | .daa | .dadH
  | .dcxH | .inrL | .dcrL | .cma | .inxSP | .inrM | .dcrM | .stc | .dadSP | .dcxSP | .inrA | .dcrA | .cmc | .movBB
  | .movBC | .movBD | .movBE | .movBH | .movBL | .movBM | .movBA | .movCB | .movCC | .movCD | .movCE | .movCH
  | .movCL | .movCM | .movCA | .movDB | .movDC | .movDD | .movDE | .movDH | .movDL | .movDM | .movDA | .movEB
  | .movEC | .movED | .movEE | .movEH | .movEL | .movEM | .movEA | .movHB | .movHC | .movHD | .movHE | .movHH
  | .movHL | .movHM | .movHA | .movLB | .movLC | .movLD | .movLE | .movLH | .movLL | .movLM | .movLA | .movMB
  | .movMC | .movMD | .movME | .movMH | .movML | .hlt | .movMA | .movAB | .movAC | .movAD | .movAE | .movAH
  | .movAL | .movAM | .movAA | .addB | .addC | .addD | .addE | .addH | .addL | .addM | .addA | .adcB | .adcC
  | .adcD | .adcE | .adcH | .adcL | .adcM | .adcA | .subB | .subC | .subD | .subE | .subH | .subL | .subM | .subA
  | .sbbB | .sbbC | .sbbD | .sbbE | .sbbH | .sbbL | .sbbM | .sbbA | .anaB | .anaC | .anaD | .anaE | .anaH | .anaL
  | .anaM | .anaA | .xraB | .xraC | .xraD | .xraE | .xraH | .xraL | .xraM | .xraA | .oraB | .oraC | .oraD | .oraE
  | .oraH | .oraL | .oraM | .oraA | .cmpB | .cmpC | .cmpD | .cmpE | .cmpH | .cmpL | .cmpM | .cmpA | .rnz | .popB
  | .pushB | .rst0 | .rz | .ret | .rst1 | .rnc | .popD | .pushD | .rst2 | .rc | .rst3 | .rpo | .popH | .xthl
  | .pushH | .rst4 | .rpe | .pchl | .xchg | .rst5 | .rp | .popPSW | .di | .pushPSW | .rst6 | .rm | .sphl | .ei
  | .rst7 => []

/-- The bytes of an instruction, in the order they lie in memory (R51). -/
def encode (i : Instr) : List Byte := opcode i :: operandBytes i

/-- The length of an instruction in bytes (R50). -/
def Instr.length (i : Instr) : Nat := (encode i).length

/-! ## The opcode table's numbering -/

/-- The three bytes of an instruction of `nbits` bits numbered as the opcode table numbers them (byte 1 is bits 7..0, byte 2
bits 15..8, byte 3 bits 23..16); every bit above `nbits` is 0. -/
def tableBytes (nbits w : Nat) : List Byte :=
  let v := w % 2 ^ nbits
  [BitVec.ofNat 8 v, BitVec.ofNat 8 (v / 256), BitVec.ofNat 8 (v / 65536)]

/-- The instruction the decoder reads from a word numbered as the opcode table numbers it, with the default UNDEF_SET. -/
def decodeTableWord (nbits w : Nat) : Option Instr :=
  match decode [] (tableBytes nbits w) with
  | .ok (i, _) => some i
  | .error _ => none

end Sys2Proof
end

