-- ==== Sys2Proof/Machine/State.lean ====
section
/-! DEFINITION. The state of the core (`spec/10_state.md`), as plain data, and its reset value (R24, R260). -/
namespace Sys2Proof.Machine

/-- The two fault kinds of the core (R230). They are the values of the FAULT latch, and what `step` answers when it is asked
for a step of a state whose latch is set. FormatError belongs to the disassembler, outside the core (R237). -/
inductive Fault where
  /-- Raised by the decoder when the opcode byte `op` fetched at `addr` is in UNDEF_SET (R233). Safe: the core stops, with
  nothing changed but the latch. -/
  | decodeError (addr : BitVec 16) (op : BitVec 8)
  /-- Raised by an instruction fetch, a data or stack access, a return address, a stack pointer after a pop or a next PC
  outside memory or outside 16 bits; `addr` is the offending integer, from -1 to 0x10000 (R230, R234, R235). Safe: the core
  stops, with nothing changed but the latch. -/
  | boundsError (addr : Int)
  deriving DecidableEq, Repr

/-- Why the model gives no transition. No instruction of the opcode table refuses. -/
inductive Refusal where
  /-- The instruction has no meaning in the model yet. No arm of `exec` uses it. Safe. -/
  | notModelled (mnemonic : String)
  /-- A step is asked of a halted core: the caller "must not" and no transition is defined (R20, R263, D20). Raised by
  `step` alone. Safe: no claim can be made of such a step. -/
  | stepAfterHalt
  /-- `Reset` with an image longer than MEM_SIZE is refused (R261, D3). Raised by `resetWith` alone. Safe. -/
  | imageTooLarge
  deriving DecidableEq, Repr

/-- The seven general registers (R10). -/
structure Regs where
  A : Byte
  B : Byte
  C : Byte
  D : Byte
  E : Byte
  H : Byte
  L : Byte
  deriving DecidableEq, Repr

/-- The five flags (R16). -/
structure Flags where
  /-- Zero -/
  Z : Bool
  /-- Sign -/
  S : Bool
  /-- Parity -/
  P : Bool
  /-- Carry -/
  CY : Bool
  /-- Auxiliary-Carry -/
  AC : Bool
  deriving DecidableEq, Repr

/-- Memory (R22): the bytes that differ from 0x00, by rising address; `Memory.wf` states the form. -/
abbrev Memory := List Host.Cell

/-- The state of the core. -/
structure State where
  /-- A, B, C, D, E, H, L (R10). -/
  regs : Regs
  /-- Z, S, P, CY, AC (R16). -/
  flags : Flags
  /-- The program counter: between instructions, the address of the next opcode byte (R13). -/
  pc : Word
  /-- The stack pointer: the address of the most recently pushed byte (R15). -/
  sp : Word
  /-- INTE, the interrupt-enable flag: stored, without effect (R19). -/
  inte : Bool
  /-- HALTED (R20). -/
  halted : Bool
  /-- The FAULT latch (R21). -/
  fault : Option Fault
  /-- Mem (R22). -/
  mem : Memory
  /-- The output trace of `PortOut(port, value)` events, oldest first (R6, R217, R260). An output and not state in the
  spec's sense (R23); no instruction reads it. -/
  portOut : List (Byte × Byte)
  /-- The implementation parameters of R4. Not state in the spec's sense (R23); no instruction changes them. -/
  config : Config
  deriving DecidableEq, Repr

/-- All registers zero (R24). -/
def Regs.zero : Regs := { A := 0, B := 0, C := 0, D := 0, E := 0, H := 0, L := 0 }

/-- All flags zero (R24). -/
def Flags.zero : Flags := { Z := false, S := false, P := false, CY := false, AC := false }

/-- The state after `Reset` with the default parameters and the empty image, which R261 calls legal (R24, R260). -/
def State.reset : State :=
  { regs := Regs.zero
    flags := Flags.zero
    pc := 0x0000
    sp := 0xFFFF
    inte := false
    halted := false
    fault := none
    mem := []
    portOut := []
    config := Config.standard }

end Sys2Proof.Machine
end

