-- ==== Sys2Proof/Machine/Memory.lean ====
section
/-! DEFINITION. Memory as a list of (address, byte) pairs in one canonical form: addresses strictly rising, no byte listed
that an unlisted address reads as. -/
namespace Sys2Proof.Machine

/-- What an unlisted address reads as: reset writes 0x00 to every byte the image does not reach (R24, R261). -/
def Memory.unlisted : Byte := 0x00

/-- The byte at address `a`. -/
def Memory.get (m : Memory) (a : Nat) : Byte :=
  match m with
  | [] => Memory.unlisted
  | (k, v) :: rest => if a = k then v else Memory.get rest a

/-- `Mem[a] <- v`, keeping the canonical form: writing the unlisted byte removes the entry. -/
def Memory.set (m : Memory) (a : Nat) (v : Byte) : Memory :=
  match m with
  | [] => if v = Memory.unlisted then [] else [(a, v)]
  | (k, w) :: rest =>
    if a < k then (if v = Memory.unlisted then (k, w) :: rest else (a, v) :: (k, w) :: rest)
    else if a = k then (if v = Memory.unlisted then rest else (a, v) :: rest)
    else (k, w) :: Memory.set rest a v

/-- The canonical form, for a list whose addresses are all at least `lo`. -/
def Memory.wfFrom (lo : Nat) (m : Memory) : Bool :=
  match m with
  | [] => true
  | (k, v) :: rest => decide (lo ≤ k) && decide (v ≠ Memory.unlisted) && Memory.wfFrom (k + 1) rest

/-- The canonical form. -/
def Memory.wf (m : Memory) : Bool := Memory.wfFrom 0 m

/-- Every listed address lies in a memory of `size` bytes (R22, R30). -/
def Memory.within (m : Memory) (size : Nat) : Bool := m.all (fun cell => decide (cell.1 < size))

/-- Write a byte string from address `a` upward, byte 0 first (R261). -/
def Memory.load (m : Memory) (a : Nat) (bytes : List Byte) : Memory :=
  match bytes with
  | [] => m
  | b :: rest => Memory.load (m.set a b) (a + 1) rest

end Sys2Proof.Machine
end

