-- ==== Sys2Proof/Machine/Ops.lean ====
section
/-! DEFINITION. The named operations on registers, memory, the stack, the program counter and the ports, the fetch of one
instruction, and the entry into a fault. A computation that may raise a fault is an `Except Fault`; it works on values of
the state as it was when the instruction began, and nothing of it is kept when it raises (R8, R36, R232). -/
namespace Sys2Proof.Machine

/-! ## Registers and pairs (R10, R11) -/

/-- `x[r]` (R8). -/
def Regs.get (x : Regs) (r : Reg) : Byte :=
  match r with
  | .A => x.A
  | .B => x.B
  | .C => x.C
  | .D => x.D
  | .E => x.E
  | .H => x.H
  | .L => x.L

/-- `x[r] <- v` (R8). -/
def Regs.set (x : Regs) (r : Reg) (v : Byte) : Regs :=
  match r with
  | .A => { x with A := v }
  | .B => { x with B := v }
  | .C => { x with C := v }
  | .D => { x with D := v }
  | .E => { x with E := v }
  | .H => { x with H := v }
  | .L => { x with L := v }

/-- The first-named register of a pair, its high byte (R11). -/
def highReg (p : RegPair) : Reg :=
  match p with
  | .BC => .B
  | .DE => .D
  | .HL => .H

/-- The second-named register of a pair, its low byte (R11). -/
def lowReg (p : RegPair) : Reg :=
  match p with
  | .BC => .C
  | .DE => .E
  | .HL => .L

/-- `rp[p]` for a register pair: first-named register high (R11). -/
def Regs.getPair (x : Regs) (p : RegPair) : Word := joinBytes (x.get (highReg p)) (x.get (lowReg p))

/-- `rp[p] <- v` for a register pair (R11). -/
def Regs.setPair (x : Regs) (p : RegPair) (v : Word) : Regs :=
  (x.set (highReg p) (hiByte v)).set (lowReg p) (loByte v)

/-- `x[r]`. -/
def State.reg (s : State) (r : Reg) : Byte := s.regs.get r

/-- `x[r] <- v`. -/
def State.setReg (s : State) (r : Reg) (v : Byte) : State := { s with regs := s.regs.set r v }

/-- `rp[p]`, p one of BC, DE, HL. -/
def State.regPair (s : State) (p : RegPair) : Word := s.regs.getPair p

/-- `rp[p] <- v`, p one of BC, DE, HL. -/
def State.setRegPair (s : State) (p : RegPair) (v : Word) : State := { s with regs := s.regs.setPair p v }

/-- `rp[p]`, p one of BC, DE, HL, SP (R11: `rp[SP] = sp`). -/
def State.pair (s : State) (p : Pair) : Word :=
  match p with
  | .rp q => s.regPair q
  | .SP => s.sp

/-- `rp[p] <- v`, p one of BC, DE, HL, SP. -/
def State.setPair (s : State) (p : Pair) (v : Word) : State :=
  match p with
  | .rp q => s.setRegPair q v
  | .SP => { s with sp := v }

/-- The five flags written together. -/
def State.setFlags (s : State) (f : Flags) : State := { s with flags := f }

/-- `F.CY <- c`, the other flags unchanged. -/
def State.setCarry (s : State) (c : Bool) : State := { s with flags := { s.flags with CY := c } }

/-! ## Memory access (R31 to R33) -/

/-- A 16-bit value as the integer an effective address starts from; no address wraps (R33). -/
def addrOf (w : Word) : Int := w.toNat

/-- `a` is an address of this core's memory: 0 to MEM_SIZE - 1 (R30, R31). -/
def State.inMemory (s : State) (a : Int) : Bool := decide (0 ≤ a) && decide (a < s.config.memSize)

/-- `if addr < 0 or addr >= MEM_SIZE then raise BoundsError(addr)` (R31). -/
def State.checkAddr (s : State) (a : Int) : Except Fault Unit :=
  if s.inMemory a then .ok () else .error (.boundsError a)

/-- The byte at an address, without the check. -/
def State.byteAt (s : State) (a : Int) : Byte := s.mem.get a.toNat

/-- `Mem[a] <- v`, without the check. -/
def State.setByteAt (s : State) (a : Int) (v : Byte) : State := { s with mem := s.mem.set a.toNat v }

/-- `MemRead(a, 1)` (R31). -/
def memRead (s : State) (a : Int) : Except Fault Byte := do
  s.checkAddr a
  return s.byteAt a

/-- `MemWrite(a, 1, v)` (R31). -/
def memWrite (s : State) (a : Int) (v : Byte) : Except Fault State := do
  s.checkAddr a
  return s.setByteAt a v

/-- `MemRead(a, 2)`: low byte at `a`, high byte at `a + 1` (R32). -/
def memRead16 (s : State) (a : Int) : Except Fault Word := do
  s.checkAddr a
  s.checkAddr (a + 1)
  return joinBytes (s.byteAt (a + 1)) (s.byteAt a)

/-- `MemWrite(a, 2, v)`: "Both byte addresses are checked by rule R31 before either byte is written" (R32). -/
def memWrite16 (s : State) (a : Int) (v : Word) : Except Fault State := do
  s.checkAddr a
  s.checkAddr (a + 1)
  return (s.setByteAt a (loByte v)).setByteAt (a + 1) (hiByte v)

/-! ## The stack (R40) -/

/-- `Push16(v)`: high byte at `sp - 1`, low byte at `sp - 2`, then `sp <- sp - 2` (R40, D12). -/
def push16 (s : State) (v : Word) : Except Fault State := do
  s.checkAddr (addrOf s.sp - 1)
  s.checkAddr (addrOf s.sp - 2)
  let t := (s.setByteAt (addrOf s.sp - 1) (hiByte v)).setByteAt (addrOf s.sp - 2) (loByte v)
  return { t with sp := s.sp - 2 }

/-- A value that must fit in a 16-bit register; `n` is computed without reduction and never wraps (R14, R40, R164). -/
def fit16 (n : Nat) : Except Fault Word :=
  if n ≤ 0xFFFF then .ok (BitVec.ofNat 16 n) else .error (.boundsError n)

/-- `Pop16()`: the value popped, and the state with `sp <- sp + 2`; SP never wraps (R40). -/
def pop16 (s : State) : Except Fault (Word × State) := do
  let v ← memRead16 s (addrOf s.sp)
  let sp ← fit16 (s.sp.toNat + 2)
  return (v, { s with sp := sp })

/-! ## The program counter (R13, R14) -/

/-- The sequential next PC, `pc + len`; above 0xFFFF it is a BoundsError of this instruction (R14, D7). -/
def advance (len : Nat) (s : State) : Except Fault State := do
  let npc ← fit16 (s.pc.toNat + len)
  return { s with pc := npc }

/-- `pc <- target`; the target is not checked (R163, D7). -/
def jumpTo (target : Word) (s : State) : State := { s with pc := target }

/-- `ret = pc + len`, raised as a BoundsError when it exceeds 0xFFFF (R164, D15); then `Push16(ret)` and `pc <- target`. -/
def callTo (target : Word) (len : Nat) (s : State) : Except Fault State := do
  let ret ← fit16 (s.pc.toNat + len)
  let t ← push16 s ret
  return jumpTo target t

/-- `pc <- Pop16()` (R167). -/
def returnFrom (s : State) : Except Fault State := do
  let (target, t) ← pop16 s
  return jumpTo target t

/-! ## Ports (R39) -/

/-- `PortIn(p)` (R4, R216). -/
def portInValue (c : Config) (p : Byte) : Option Byte := c.portIn.lookup p

/-- `emit PortOut(p, v)`: the event is appended to the output trace (R217). -/
def emitPortOut (p v : Byte) (s : State) : State := { s with portOut := s.portOut ++ [(p, v)] }

/-! ## Faults and the end of an instruction (R232)

There is no return from a fault: "There is no return-from-trap instruction and no handler" (R238); only `resetWith` leaves a
faulted state. -/

/-- Fault entry: no register, flag, PC, SP, INTE, HALTED or memory byte changes, no PortOut event is emitted, and
`FAULT <- K(info)` (R232). -/
def takeFault (k : Fault) (s : State) : State := { s with fault := some k }

/-- The end of an instruction begun in state `s`: all its writes take effect together, or, if it raised, the fault is taken
from `s` (R8, R36, R58, R232). -/
def finish (s : State) (r : Except Fault State) : Host.Outcome State Fault Refusal :=
  match r with
  | .ok t => .next t
  | .error k => .next (takeFault k s)

/-! ## Instruction fetch (R45, R58) -/

/-- The operand byte at `pc + k`, when the opcode declares at least `k` of them; a byte it does not declare is not read. -/
def fetchOperand (s : State) (len k : Nat) : Except Fault Byte :=
  if k < len then memRead s (addrOf s.pc + k) else .ok 0

/-- The instruction at `pc`: opcode fetch, UNDEF_SET, then the operand bytes the opcode's length demands (R58, R64). -/
def fetch (s : State) : Except Fault Instr := do
  let op ← memRead s (addrOf s.pc)
  if s.config.undefSet.contains op then .error (.decodeError s.pc op)
  else do
    let b2 ← fetchOperand s (opcodeLength op) 1
    let b3 ← fetchOperand s (opcodeLength op) 2
    return decodeOpcode op b2 b3

/-- The bytes of memory from `a` upward, at most `n` of them, up to the end of memory. -/
def State.bytesFrom (s : State) (a : Int) (n : Nat) : List Byte :=
  match n with
  | 0 => []
  | n + 1 => if s.inMemory a then s.byteAt a :: s.bytesFrom (a + 1) n else []

end Sys2Proof.Machine
end

