-- ==== Sys2Proof/Machine/Flags.lean ====
section
/-! DEFINITION. The arithmetic and flag computations: the functions Add8, Sub8, Logic8 and Compare8 (R119, R120, R142, R143),
INR and DCR (R112, R114), DAD (R118), the rotates (R150 to R153), DAA (R194), the flags byte (R18) and the conditions (R55). -/
namespace Sys2Proof.Machine

/-- The number of one bits of a byte. -/
def onesCount (v : Byte) : Nat := ((List.range 8).filter (fun i => v.getLsbD i)).length

/-- `Parity(v)`: 1 when `v` has an even number of one bits (R17, D21). -/
def parity (v : Byte) : Bool := decide (onesCount v % 2 = 0)

/-- `ZSP(v)` with the given Carry and Auxiliary-Carry (R17). -/
def zspWith (v : Byte) (cy ac : Bool) : Flags :=
  { Z := decide (v = 0x00), S := v.getLsbD 7, P := parity v, CY := cy, AC := ac }

/-- `zext_16` of a byte (R8). -/
def zext16 (v : Byte) : Word := v.zeroExtend 16

/-- `v[3:0]` as a number. -/
def lowNibble (v : Byte) : Nat := v.toNat % 16

/-- `v[7:4]` as a number. -/
def highNibble (v : Byte) : Nat := v.toNat / 16

/-- `Add8(a, b, cin)` (R119): Carry is bit 8 of the widened sum, Auxiliary-Carry the carry out of bit 3 (D13). -/
def add8 (a b : Byte) (cin : Bool) : Byte × Flags :=
  let w := zext16 a + zext16 b + BitVec.ofNat 16 cin.toNat
  let res := loByte w
  (res, zspWith res (w.getLsbD 8) (decide (lowNibble a + lowNibble b + cin.toNat > 0xF)))

/-- `Sub8(a, b, bin)` (R120): Carry is the borrow, bit 8 of the widened difference; Auxiliary-Carry is the carry out of bit 3
of `a + ~b + (1 - bin)` (D13). -/
def sub8 (a b : Byte) (bin : Bool) : Byte × Flags :=
  let w := zext16 a - zext16 b - BitVec.ofNat 16 bin.toNat
  let res := loByte w
  (res, zspWith res (w.getLsbD 8) (decide (lowNibble a + lowNibble (~~~b) + (1 - bin.toNat) > 0xF)))

/-- The bitwise operations (R142). -/
inductive LogicOp where
  | AND | XOR | OR
  deriving DecidableEq, Repr

/-- The result of a bitwise operation (R142). -/
def LogicOp.apply (op : LogicOp) (a b : Byte) : Byte :=
  match op with
  | .AND => a &&& b
  | .XOR => a ^^^ b
  | .OR => a ||| b

/-- `Logic8(op, a, b)` (R142): Carry and Auxiliary-Carry are cleared by all three operations (C3). -/
def logic8 (op : LogicOp) (a b : Byte) : Byte × Flags :=
  let res := op.apply a b
  (res, zspWith res false false)

/-- `Compare8(a, b)` (R143): Z by equality, CY by unsigned less-than, S and P from the difference, AC as a subtraction. -/
def compare8 (a b : Byte) : Flags :=
  let d := a - b
  { Z := decide (a = b)
    S := d.getLsbD 7
    P := parity d
    CY := decide (a.toNat < b.toNat)
    AC := decide (lowNibble a + lowNibble (~~~b) + 1 > 0xF) }

/-- The result and flags of INR; Carry is kept (R112). -/
def inc8 (v : Byte) (f : Flags) : Byte × Flags :=
  let res := v + 1
  (res, zspWith res f.CY (decide (lowNibble v = 0xF)))

/-- The result and flags of DCR; Carry is kept (R114). -/
def dec8 (v : Byte) (f : Flags) : Byte × Flags :=
  let res := v - 1
  (res, zspWith res f.CY (decide (lowNibble v ≠ 0x0)))

/-- DAD: the 16-bit sum, and Carry from bit 16 of the widened sum (R118). -/
def dad16 (a b : Word) : Word × Bool :=
  let w : BitVec 17 := a.zeroExtend 17 + b.zeroExtend 17
  (w.extractLsb' 0 16, w.getLsbD 16)

/-- RLC: `a[6:0] : a[7]`, and `a[7]` to Carry (R150). -/
def rotRLC (a : Byte) : Byte × Bool := (a.extractLsb' 0 7 ++ a.extractLsb' 7 1, a.getLsbD 7)

/-- RRC: `a[0] : a[7:1]`, and `a[0]` to Carry (R151). -/
def rotRRC (a : Byte) : Byte × Bool := (a.extractLsb' 0 1 ++ a.extractLsb' 1 7, a.getLsbD 0)

/-- RAL: `a[6:0] : c`, and `a[7]` to Carry (R152). -/
def rotRAL (a : Byte) (c : Bool) : Byte × Bool := (a.extractLsb' 0 7 ++ BitVec.ofBool c, a.getLsbD 7)

/-- RAR: `c : a[7:1]`, and `a[0]` to Carry (R153). -/
def rotRAR (a : Byte) (c : Bool) : Byte × Bool := (BitVec.ofBool c ++ a.extractLsb' 1 7, a.getLsbD 0)

/-- DAA (R194, D16): 0x06 when AC or a low nibble above 9, 0x60 when CY or a high nibble above 9 or a high nibble of 9 with a
low nibble above 9; Carry is set by the high correction and never cleared. -/
def daa8 (a : Byte) (f : Flags) : Byte × Flags :=
  let lo := lowNibble a
  let hi := highNibble a
  let fixLow := f.AC || decide (lo > 9)
  let fixHigh := f.CY || decide (hi > 9) || (decide (hi ≥ 9) && decide (lo > 9))
  let corr : Byte := (if fixLow then 0x06 else 0x00) + (if fixHigh then 0x60 else 0x00)
  let res := a + corr
  (res, zspWith res (f.CY || fixHigh) (decide (lo + lowNibble corr > 0xF)))

/-- `FlagsByte()`: S Z 0 AC 0 P 1 CY (R18, D9). -/
def flagsByte (f : Flags) : Byte :=
  BitVec.ofBool f.S ++ BitVec.ofBool f.Z ++ 0b0#1 ++ BitVec.ofBool f.AC
    ++ 0b0#1 ++ BitVec.ofBool f.P ++ 0b1#1 ++ BitVec.ofBool f.CY

/-- `SetFlagsByte(b)`: bits 5, 3 and 1 are ignored (R18). -/
def flagsOfByte (b : Byte) : Flags :=
  { Z := b.getLsbD 6, S := b.getLsbD 7, P := b.getLsbD 2, CY := b.getLsbD 0, AC := b.getLsbD 4 }

/-- `Cond(ccc)` (R55). -/
def condHolds (c : Cond) (f : Flags) : Bool :=
  match c with
  | .NZ => !f.Z
  | .Z => f.Z
  | .NC => !f.CY
  | .C => f.CY
  | .PO => !f.P
  | .PE => f.P
  | .P => !f.S
  | .M => f.S

end Sys2Proof.Machine
end

