-- ==== Sys2Proof/Machine/Operands.lean ====
section
/-! DEFINITION. The 8-bit operand, a register or M (R12, R53), and the accumulator operations applied to an operand's value
(R56). -/
namespace Sys2Proof.Machine

/-- The value of an 8-bit operand: a register, or the byte at `rp[HL]` (R12). -/
def readOperand (s : State) (o : Operand8) : Except Fault Byte :=
  match o with
  | .reg r => .ok (s.reg r)
  | .M => memRead s (addrOf (s.regPair .HL))

/-- Write an 8-bit operand: a register, or the byte at `rp[HL]` (R12). -/
def writeOperand (s : State) (o : Operand8) (v : Byte) : Except Fault State :=
  match o with
  | .reg r => .ok (s.setReg r v)
  | .M => memWrite s (addrOf (s.regPair .HL)) v

/-- `x[A] <- res` with the five flags (R100 to R111, R130 to R135, R138 to R140). -/
def State.setAccumulator (s : State) (r : Byte × Flags) : State := (s.setReg .A r.1).setFlags r.2

/-- The accumulator operation `op` on the value `v` (R56); CMP writes the flags only (R143). -/
def applyAlu (op : AluOp) (v : Byte) (s : State) : State :=
  match op with
  | .ADD => s.setAccumulator (add8 (s.reg .A) v false)
  | .ADC => s.setAccumulator (add8 (s.reg .A) v s.flags.CY)
  | .SUB => s.setAccumulator (sub8 (s.reg .A) v false)
  | .SBB => s.setAccumulator (sub8 (s.reg .A) v s.flags.CY)
  | .ANA => s.setAccumulator (logic8 .AND (s.reg .A) v)
  | .XRA => s.setAccumulator (logic8 .XOR (s.reg .A) v)
  | .ORA => s.setAccumulator (logic8 .OR (s.reg .A) v)
  | .CMP => s.setFlags (compare8 (s.reg .A) v)

/-- The accumulator operation on a register or M, one byte long (R61). -/
def aluOperand (op : AluOp) (o : Operand8) (s : State) : Host.Outcome State Fault Refusal :=
  finish s do
    let v ← readOperand s o
    advance 1 (applyAlu op v s)

/-- The accumulator operation on an immediate byte, two bytes long (R56). -/
def aluImmediate (op : AluOp) (d8 : Byte) (s : State) : Host.Outcome State Fault Refusal :=
  finish s (advance 2 (applyAlu op d8 s))

end Sys2Proof.Machine
end

