-- ==== Sys2Proof/Machine/Arithmetic.lean ====
section
/-! DEFINITION. Arithmetic: ADD, ADC, SUB, SBB and their immediate forms, INR, DCR, INX, DCX, DAD (`spec/41_arithmetic.md`). -/
namespace Sys2Proof.Machine

/-- INR: add one to an 8-bit operand; Carry is kept (R112, R113). -/
def incrementOperand (o : Operand8) (s : State) : Host.Outcome State Fault Refusal :=
  finish s do
    let v ← readOperand s o
    let t ← writeOperand s o (inc8 v s.flags).1
    advance 1 (t.setFlags (inc8 v s.flags).2)

/-- DCR: subtract one from an 8-bit operand; Carry is kept (R114, R115). -/
def decrementOperand (o : Operand8) (s : State) : Host.Outcome State Fault Refusal :=
  finish s do
    let v ← readOperand s o
    let t ← writeOperand s o (dec8 v s.flags).1
    advance 1 (t.setFlags (dec8 v s.flags).2)

/-- INX: add one to a pair or SP, modulo 2^16, no flag (R116, D14). -/
def incrementPair (p : Pair) (s : State) : Host.Outcome State Fault Refusal :=
  finish s (advance 1 (s.setPair p (s.pair p + 1)))

/-- DCX: subtract one from a pair or SP, modulo 2^16, no flag (R117, D14). -/
def decrementPair (p : Pair) (s : State) : Host.Outcome State Fault Refusal :=
  finish s (advance 1 (s.setPair p (s.pair p - 1)))

/-- DAD: add a pair or SP to HL; Carry only (R118). -/
def addPairToHL (p : Pair) (s : State) : Host.Outcome State Fault Refusal :=
  let r := dad16 (s.regPair .HL) (s.pair p)
  finish s (advance 1 ((s.setRegPair .HL r.1).setCarry r.2))

/-- ADD B (R100). -/
def execAddB (s : State) : Host.Outcome State Fault Refusal := aluOperand .ADD (.reg .B) s

/-- ADD C (R100). -/
def execAddC (s : State) : Host.Outcome State Fault Refusal := aluOperand .ADD (.reg .C) s

/-- ADD D (R100). -/
def execAddD (s : State) : Host.Outcome State Fault Refusal := aluOperand .ADD (.reg .D) s

/-- ADD E (R100). -/
def execAddE (s : State) : Host.Outcome State Fault Refusal := aluOperand .ADD (.reg .E) s

/-- ADD H (R100). -/
def execAddH (s : State) : Host.Outcome State Fault Refusal := aluOperand .ADD (.reg .H) s

/-- ADD L (R100). -/
def execAddL (s : State) : Host.Outcome State Fault Refusal := aluOperand .ADD (.reg .L) s

/-- ADD A (R100). -/
def execAddA (s : State) : Host.Outcome State Fault Refusal := aluOperand .ADD (.reg .A) s

/-- ADD M (R101). -/
def execAddM (s : State) : Host.Outcome State Fault Refusal := aluOperand .ADD .M s

/-- ADI d8 (R108). -/
def execAdi (d8 : Byte) (s : State) : Host.Outcome State Fault Refusal := aluImmediate .ADD d8 s

/-- ADC B (R102). -/
def execAdcB (s : State) : Host.Outcome State Fault Refusal := aluOperand .ADC (.reg .B) s

/-- ADC C (R102). -/
def execAdcC (s : State) : Host.Outcome State Fault Refusal := aluOperand .ADC (.reg .C) s

/-- ADC D (R102). -/
def execAdcD (s : State) : Host.Outcome State Fault Refusal := aluOperand .ADC (.reg .D) s

/-- ADC E (R102). -/
def execAdcE (s : State) : Host.Outcome State Fault Refusal := aluOperand .ADC (.reg .E) s

/-- ADC H (R102). -/
def execAdcH (s : State) : Host.Outcome State Fault Refusal := aluOperand .ADC (.reg .H) s

/-- ADC L (R102). -/
def execAdcL (s : State) : Host.Outcome State Fault Refusal := aluOperand .ADC (.reg .L) s

/-- ADC A (R102). -/
def execAdcA (s : State) : Host.Outcome State Fault Refusal := aluOperand .ADC (.reg .A) s

/-- ADC M (R103). -/
def execAdcM (s : State) : Host.Outcome State Fault Refusal := aluOperand .ADC .M s

/-- ACI d8 (R109). -/
def execAci (d8 : Byte) (s : State) : Host.Outcome State Fault Refusal := aluImmediate .ADC d8 s

/-- SUB B (R104). -/
def execSubB (s : State) : Host.Outcome State Fault Refusal := aluOperand .SUB (.reg .B) s

/-- SUB C (R104). -/
def execSubC (s : State) : Host.Outcome State Fault Refusal := aluOperand .SUB (.reg .C) s

/-- SUB D (R104). -/
def execSubD (s : State) : Host.Outcome State Fault Refusal := aluOperand .SUB (.reg .D) s

/-- SUB E (R104). -/
def execSubE (s : State) : Host.Outcome State Fault Refusal := aluOperand .SUB (.reg .E) s

/-- SUB H (R104). -/
def execSubH (s : State) : Host.Outcome State Fault Refusal := aluOperand .SUB (.reg .H) s

/-- SUB L (R104). -/
def execSubL (s : State) : Host.Outcome State Fault Refusal := aluOperand .SUB (.reg .L) s

/-- SUB A (R104). -/
def execSubA (s : State) : Host.Outcome State Fault Refusal := aluOperand .SUB (.reg .A) s

/-- SUB M (R105). -/
def execSubM (s : State) : Host.Outcome State Fault Refusal := aluOperand .SUB .M s

/-- SUI d8 (R110). -/
def execSui (d8 : Byte) (s : State) : Host.Outcome State Fault Refusal := aluImmediate .SUB d8 s

/-- SBB B (R106). -/
def execSbbB (s : State) : Host.Outcome State Fault Refusal := aluOperand .SBB (.reg .B) s

/-- SBB C (R106). -/
def execSbbC (s : State) : Host.Outcome State Fault Refusal := aluOperand .SBB (.reg .C) s

/-- SBB D (R106). -/
def execSbbD (s : State) : Host.Outcome State Fault Refusal := aluOperand .SBB (.reg .D) s

/-- SBB E (R106). -/
def execSbbE (s : State) : Host.Outcome State Fault Refusal := aluOperand .SBB (.reg .E) s

/-- SBB H (R106). -/
def execSbbH (s : State) : Host.Outcome State Fault Refusal := aluOperand .SBB (.reg .H) s

/-- SBB L (R106). -/
def execSbbL (s : State) : Host.Outcome State Fault Refusal := aluOperand .SBB (.reg .L) s

/-- SBB A (R106). -/
def execSbbA (s : State) : Host.Outcome State Fault Refusal := aluOperand .SBB (.reg .A) s

/-- SBB M (R107). -/
def execSbbM (s : State) : Host.Outcome State Fault Refusal := aluOperand .SBB .M s

/-- SBI d8 (R111). -/
def execSbi (d8 : Byte) (s : State) : Host.Outcome State Fault Refusal := aluImmediate .SBB d8 s

/-- INR B (R112). -/
def execInrB (s : State) : Host.Outcome State Fault Refusal := incrementOperand (.reg .B) s

/-- INR C (R112). -/
def execInrC (s : State) : Host.Outcome State Fault Refusal := incrementOperand (.reg .C) s

/-- INR D (R112). -/
def execInrD (s : State) : Host.Outcome State Fault Refusal := incrementOperand (.reg .D) s

/-- INR E (R112). -/
def execInrE (s : State) : Host.Outcome State Fault Refusal := incrementOperand (.reg .E) s

/-- INR H (R112). -/
def execInrH (s : State) : Host.Outcome State Fault Refusal := incrementOperand (.reg .H) s

/-- INR L (R112). -/
def execInrL (s : State) : Host.Outcome State Fault Refusal := incrementOperand (.reg .L) s

/-- INR A (R112). -/
def execInrA (s : State) : Host.Outcome State Fault Refusal := incrementOperand (.reg .A) s

/-- INR M (R113). -/
def execInrM (s : State) : Host.Outcome State Fault Refusal := incrementOperand .M s

/-- DCR B (R114). -/
def execDcrB (s : State) : Host.Outcome State Fault Refusal := decrementOperand (.reg .B) s

/-- DCR C (R114). -/
def execDcrC (s : State) : Host.Outcome State Fault Refusal := decrementOperand (.reg .C) s

/-- DCR D (R114). -/
def execDcrD (s : State) : Host.Outcome State Fault Refusal := decrementOperand (.reg .D) s

/-- DCR E (R114). -/
def execDcrE (s : State) : Host.Outcome State Fault Refusal := decrementOperand (.reg .E) s

/-- DCR H (R114). -/
def execDcrH (s : State) : Host.Outcome State Fault Refusal := decrementOperand (.reg .H) s

/-- DCR L (R114). -/
def execDcrL (s : State) : Host.Outcome State Fault Refusal := decrementOperand (.reg .L) s

/-- DCR A (R114). -/
def execDcrA (s : State) : Host.Outcome State Fault Refusal := decrementOperand (.reg .A) s

/-- DCR M (R115). -/
def execDcrM (s : State) : Host.Outcome State Fault Refusal := decrementOperand .M s

/-- INX B (R116). -/
def execInxB (s : State) : Host.Outcome State Fault Refusal := incrementPair (.rp .BC) s

/-- INX D (R116). -/
def execInxD (s : State) : Host.Outcome State Fault Refusal := incrementPair (.rp .DE) s

/-- INX H (R116). -/
def execInxH (s : State) : Host.Outcome State Fault Refusal := incrementPair (.rp .HL) s

/-- INX SP (R116). -/
def execInxSP (s : State) : Host.Outcome State Fault Refusal := incrementPair .SP s

/-- DCX B (R117). -/
def execDcxB (s : State) : Host.Outcome State Fault Refusal := decrementPair (.rp .BC) s

/-- DCX D (R117). -/
def execDcxD (s : State) : Host.Outcome State Fault Refusal := decrementPair (.rp .DE) s

/-- DCX H (R117). -/
def execDcxH (s : State) : Host.Outcome State Fault Refusal := decrementPair (.rp .HL) s

/-- DCX SP (R117). -/
def execDcxSP (s : State) : Host.Outcome State Fault Refusal := decrementPair .SP s

/-- DAD B (R118). -/
def execDadB (s : State) : Host.Outcome State Fault Refusal := addPairToHL (.rp .BC) s

/-- DAD D (R118). -/
def execDadD (s : State) : Host.Outcome State Fault Refusal := addPairToHL (.rp .DE) s

/-- DAD H (R118). -/
def execDadH (s : State) : Host.Outcome State Fault Refusal := addPairToHL (.rp .HL) s

/-- DAD SP (R118). -/
def execDadSP (s : State) : Host.Outcome State Fault Refusal := addPairToHL .SP s

end Sys2Proof.Machine
end

