-- ==== Sys2Proof/Machine/DataMove.lean ====
section
/-! DEFINITION. Data move: MOV, MVI, LXI, XCHG (`spec/40_data_move.md`). No flag is read or written (R83). -/
namespace Sys2Proof.Machine

/-- MOV: copy the source operand to the destination operand; the address of an M operand is taken from the old HL (R80 to R82). -/
def moveOperand (d o : Operand8) (s : State) : Host.Outcome State Fault Refusal :=
  finish s do
    let v ← readOperand s o
    let t ← writeOperand s d v
    advance 1 t

/-- MVI: write the immediate byte to the destination operand (R84, R85). -/
def moveImmediate (d : Operand8) (d8 : Byte) (s : State) : Host.Outcome State Fault Refusal :=
  finish s do
    let t ← writeOperand s d d8
    advance 2 t

/-- LXI: load a pair or SP with the immediate (R86). -/
def loadPair (p : Pair) (d16 : Word) (s : State) : Host.Outcome State Fault Refusal :=
  finish s (advance 3 (s.setPair p d16))

/-- XCHG: exchange DE and HL, both read before either is written (R87). -/
def exchangeDEHL (s : State) : Host.Outcome State Fault Refusal :=
  finish s (advance 1 ((s.setRegPair .DE (s.regPair .HL)).setRegPair .HL (s.regPair .DE)))

/-- MOV B,B (R80). -/
def execMovBB (s : State) : Host.Outcome State Fault Refusal := moveOperand (.reg .B) (.reg .B) s

/-- MOV B,C (R80). -/
def execMovBC (s : State) : Host.Outcome State Fault Refusal := moveOperand (.reg .B) (.reg .C) s

/-- MOV B,D (R80). -/
def execMovBD (s : State) : Host.Outcome State Fault Refusal := moveOperand (.reg .B) (.reg .D) s

/-- MOV B,E (R80). -/
def execMovBE (s : State) : Host.Outcome State Fault Refusal := moveOperand (.reg .B) (.reg .E) s

/-- MOV B,H (R80). -/
def execMovBH (s : State) : Host.Outcome State Fault Refusal := moveOperand (.reg .B) (.reg .H) s

/-- MOV B,L (R80). -/
def execMovBL (s : State) : Host.Outcome State Fault Refusal := moveOperand (.reg .B) (.reg .L) s

/-- MOV B,A (R80). -/
def execMovBA (s : State) : Host.Outcome State Fault Refusal := moveOperand (.reg .B) (.reg .A) s

/-- MOV B,M (R81). -/
def execMovBM (s : State) : Host.Outcome State Fault Refusal := moveOperand (.reg .B) .M s

/-- MOV C,B (R80). -/
def execMovCB (s : State) : Host.Outcome State Fault Refusal := moveOperand (.reg .C) (.reg .B) s

/-- MOV C,C (R80). -/
def execMovCC (s : State) : Host.Outcome State Fault Refusal := moveOperand (.reg .C) (.reg .C) s

/-- MOV C,D (R80). -/
def execMovCD (s : State) : Host.Outcome State Fault Refusal := moveOperand (.reg .C) (.reg .D) s

/-- MOV C,E (R80). -/
def execMovCE (s : State) : Host.Outcome State Fault Refusal := moveOperand (.reg .C) (.reg .E) s

/-- MOV C,H (R80). -/
def execMovCH (s : State) : Host.Outcome State Fault Refusal := moveOperand (.reg .C) (.reg .H) s

/-- MOV C,L (R80). -/
def execMovCL (s : State) : Host.Outcome State Fault Refusal := moveOperand (.reg .C) (.reg .L) s

/-- MOV C,A (R80). -/
def execMovCA (s : State) : Host.Outcome State Fault Refusal := moveOperand (.reg .C) (.reg .A) s

/-- MOV C,M (R81). -/
def execMovCM (s : State) : Host.Outcome State Fault Refusal := moveOperand (.reg .C) .M s

/-- MOV D,B (R80). -/
def execMovDB (s : State) : Host.Outcome State Fault Refusal := moveOperand (.reg .D) (.reg .B) s

/-- MOV D,C (R80). -/
def execMovDC (s : State) : Host.Outcome State Fault Refusal := moveOperand (.reg .D) (.reg .C) s

/-- MOV D,D (R80). -/
def execMovDD (s : State) : Host.Outcome State Fault Refusal := moveOperand (.reg .D) (.reg .D) s

/-- MOV D,E (R80). -/
def execMovDE (s : State) : Host.Outcome State Fault Refusal := moveOperand (.reg .D) (.reg .E) s

/-- MOV D,H (R80). -/
def execMovDH (s : State) : Host.Outcome State Fault Refusal := moveOperand (.reg .D) (.reg .H) s

/-- MOV D,L (R80). -/
def execMovDL (s : State) : Host.Outcome State Fault Refusal := moveOperand (.reg .D) (.reg .L) s

/-- MOV D,A (R80). -/
def execMovDA (s : State) : Host.Outcome State Fault Refusal := moveOperand (.reg .D) (.reg .A) s

/-- MOV D,M (R81). -/
def execMovDM (s : State) : Host.Outcome State Fault Refusal := moveOperand (.reg .D) .M s

/-- MOV E,B (R80). -/
def execMovEB (s : State) : Host.Outcome State Fault Refusal := moveOperand (.reg .E) (.reg .B) s

/-- MOV E,C (R80). -/
def execMovEC (s : State) : Host.Outcome State Fault Refusal := moveOperand (.reg .E) (.reg .C) s

/-- MOV E,D (R80). -/
def execMovED (s : State) : Host.Outcome State Fault Refusal := moveOperand (.reg .E) (.reg .D) s

/-- MOV E,E (R80). -/
def execMovEE (s : State) : Host.Outcome State Fault Refusal := moveOperand (.reg .E) (.reg .E) s

/-- MOV E,H (R80). -/
def execMovEH (s : State) : Host.Outcome State Fault Refusal := moveOperand (.reg .E) (.reg .H) s

/-- MOV E,L (R80). -/
def execMovEL (s : State) : Host.Outcome State Fault Refusal := moveOperand (.reg .E) (.reg .L) s

/-- MOV E,A (R80). -/
def execMovEA (s : State) : Host.Outcome State Fault Refusal := moveOperand (.reg .E) (.reg .A) s

/-- MOV E,M (R81). -/
def execMovEM (s : State) : Host.Outcome State Fault Refusal := moveOperand (.reg .E) .M s

/-- MOV H,B (R80). -/
def execMovHB (s : State) : Host.Outcome State Fault Refusal := moveOperand (.reg .H) (.reg .B) s

/-- MOV H,C (R80). -/
def execMovHC (s : State) : Host.Outcome State Fault Refusal := moveOperand (.reg .H) (.reg .C) s

/-- MOV H,D (R80). -/
def execMovHD (s : State) : Host.Outcome State Fault Refusal := moveOperand (.reg .H) (.reg .D) s

/-- MOV H,E (R80). -/
def execMovHE (s : State) : Host.Outcome State Fault Refusal := moveOperand (.reg .H) (.reg .E) s

/-- MOV H,H (R80). -/
def execMovHH (s : State) : Host.Outcome State Fault Refusal := moveOperand (.reg .H) (.reg .H) s

/-- MOV H,L (R80). -/
def execMovHL (s : State) : Host.Outcome State Fault Refusal := moveOperand (.reg .H) (.reg .L) s

/-- MOV H,A (R80). -/
def execMovHA (s : State) : Host.Outcome State Fault Refusal := moveOperand (.reg .H) (.reg .A) s

/-- MOV H,M (R81). -/
def execMovHM (s : State) : Host.Outcome State Fault Refusal := moveOperand (.reg .H) .M s

/-- MOV L,B (R80). -/
def execMovLB (s : State) : Host.Outcome State Fault Refusal := moveOperand (.reg .L) (.reg .B) s

/-- MOV L,C (R80). -/
def execMovLC (s : State) : Host.Outcome State Fault Refusal := moveOperand (.reg .L) (.reg .C) s

/-- MOV L,D (R80). -/
def execMovLD (s : State) : Host.Outcome State Fault Refusal := moveOperand (.reg .L) (.reg .D) s

/-- MOV L,E (R80). -/
def execMovLE (s : State) : Host.Outcome State Fault Refusal := moveOperand (.reg .L) (.reg .E) s

/-- MOV L,H (R80). -/
def execMovLH (s : State) : Host.Outcome State Fault Refusal := moveOperand (.reg .L) (.reg .H) s

/-- MOV L,L (R80). -/
def execMovLL (s : State) : Host.Outcome State Fault Refusal := moveOperand (.reg .L) (.reg .L) s

/-- MOV L,A (R80). -/
def execMovLA (s : State) : Host.Outcome State Fault Refusal := moveOperand (.reg .L) (.reg .A) s

/-- MOV L,M (R81). -/
def execMovLM (s : State) : Host.Outcome State Fault Refusal := moveOperand (.reg .L) .M s

/-- MOV A,B (R80). -/
def execMovAB (s : State) : Host.Outcome State Fault Refusal := moveOperand (.reg .A) (.reg .B) s

/-- MOV A,C (R80). -/
def execMovAC (s : State) : Host.Outcome State Fault Refusal := moveOperand (.reg .A) (.reg .C) s

/-- MOV A,D (R80). -/
def execMovAD (s : State) : Host.Outcome State Fault Refusal := moveOperand (.reg .A) (.reg .D) s

/-- MOV A,E (R80). -/
def execMovAE (s : State) : Host.Outcome State Fault Refusal := moveOperand (.reg .A) (.reg .E) s

/-- MOV A,H (R80). -/
def execMovAH (s : State) : Host.Outcome State Fault Refusal := moveOperand (.reg .A) (.reg .H) s

/-- MOV A,L (R80). -/
def execMovAL (s : State) : Host.Outcome State Fault Refusal := moveOperand (.reg .A) (.reg .L) s

/-- MOV A,A (R80). -/
def execMovAA (s : State) : Host.Outcome State Fault Refusal := moveOperand (.reg .A) (.reg .A) s

/-- MOV A,M (R81). -/
def execMovAM (s : State) : Host.Outcome State Fault Refusal := moveOperand (.reg .A) .M s

/-- MOV M,B (R82). -/
def execMovMB (s : State) : Host.Outcome State Fault Refusal := moveOperand .M (.reg .B) s

/-- MOV M,C (R82). -/
def execMovMC (s : State) : Host.Outcome State Fault Refusal := moveOperand .M (.reg .C) s

/-- MOV M,D (R82). -/
def execMovMD (s : State) : Host.Outcome State Fault Refusal := moveOperand .M (.reg .D) s

/-- MOV M,E (R82). -/
def execMovME (s : State) : Host.Outcome State Fault Refusal := moveOperand .M (.reg .E) s

/-- MOV M,H (R82). -/
def execMovMH (s : State) : Host.Outcome State Fault Refusal := moveOperand .M (.reg .H) s

/-- MOV M,L (R82). -/
def execMovML (s : State) : Host.Outcome State Fault Refusal := moveOperand .M (.reg .L) s

/-- MOV M,A (R82). -/
def execMovMA (s : State) : Host.Outcome State Fault Refusal := moveOperand .M (.reg .A) s

/-- MVI B,d8 (R84). -/
def execMviB (d8 : Byte) (s : State) : Host.Outcome State Fault Refusal := moveImmediate (.reg .B) d8 s

/-- MVI C,d8 (R84). -/
def execMviC (d8 : Byte) (s : State) : Host.Outcome State Fault Refusal := moveImmediate (.reg .C) d8 s

/-- MVI D,d8 (R84). -/
def execMviD (d8 : Byte) (s : State) : Host.Outcome State Fault Refusal := moveImmediate (.reg .D) d8 s

/-- MVI E,d8 (R84). -/
def execMviE (d8 : Byte) (s : State) : Host.Outcome State Fault Refusal := moveImmediate (.reg .E) d8 s

/-- MVI H,d8 (R84). -/
def execMviH (d8 : Byte) (s : State) : Host.Outcome State Fault Refusal := moveImmediate (.reg .H) d8 s

/-- MVI L,d8 (R84). -/
def execMviL (d8 : Byte) (s : State) : Host.Outcome State Fault Refusal := moveImmediate (.reg .L) d8 s

/-- MVI A,d8 (R84). -/
def execMviA (d8 : Byte) (s : State) : Host.Outcome State Fault Refusal := moveImmediate (.reg .A) d8 s

/-- MVI M,d8 (R85). -/
def execMviM (d8 : Byte) (s : State) : Host.Outcome State Fault Refusal := moveImmediate .M d8 s

/-- LXI B,d16 (R86). -/
def execLxiB (d16 : Word) (s : State) : Host.Outcome State Fault Refusal := loadPair (.rp .BC) d16 s

/-- LXI D,d16 (R86). -/
def execLxiD (d16 : Word) (s : State) : Host.Outcome State Fault Refusal := loadPair (.rp .DE) d16 s

/-- LXI H,d16 (R86). -/
def execLxiH (d16 : Word) (s : State) : Host.Outcome State Fault Refusal := loadPair (.rp .HL) d16 s

/-- LXI SP,d16 (R86). -/
def execLxiSP (d16 : Word) (s : State) : Host.Outcome State Fault Refusal := loadPair .SP d16 s

/-- XCHG (R87). -/
def execXchg (s : State) : Host.Outcome State Fault Refusal := exchangeDEHL s

end Sys2Proof.Machine
end

