-- ==== Sys2Proof/Machine/FlagMode.lean ====
section
/-! DEFINITION. Flag and mode: NOP, STC, CMC, CMA, DAA, EI, DI, HLT (`spec/45_flag_mode.md`). -/
namespace Sys2Proof.Machine

/-- NOP (R190). -/
def execNop (s : State) : Host.Outcome State Fault Refusal := finish s (advance 1 s)

/-- STC (R191). -/
def execStc (s : State) : Host.Outcome State Fault Refusal := finish s (advance 1 (s.setCarry true))

/-- CMC (R192). -/
def execCmc (s : State) : Host.Outcome State Fault Refusal := finish s (advance 1 (s.setCarry (!s.flags.CY)))

/-- CMA (R193). -/
def execCma (s : State) : Host.Outcome State Fault Refusal := finish s (advance 1 (s.setReg .A (~~~(s.reg .A))))

/-- DAA (R194). -/
def execDaa (s : State) : Host.Outcome State Fault Refusal := finish s (advance 1 (s.setAccumulator (daa8 (s.reg .A) s.flags)))

/-- EI (R195). -/
def execEi (s : State) : Host.Outcome State Fault Refusal := finish s (advance 1 { s with inte := true })

/-- DI (R196). -/
def execDi (s : State) : Host.Outcome State Fault Refusal := finish s (advance 1 { s with inte := false })

/-- HLT: HALTED is set and PC keeps the address of the HLT opcode (R20, R197, C2). -/
def execHlt (s : State) : Host.Outcome State Fault Refusal := finish s (.ok { s with halted := true })

end Sys2Proof.Machine
end

