-- ==== Sys2Proof/Machine/Logical.lean ====
section
/-! DEFINITION. Logical and compare: ANA, XRA, ORA, CMP and their immediate forms (`spec/42_logical.md`). -/
namespace Sys2Proof.Machine

/-- ANA B (R130). -/
def execAnaB (s : State) : Host.Outcome State Fault Refusal := aluOperand .ANA (.reg .B) s

/-- ANA C (R130). -/
def execAnaC (s : State) : Host.Outcome State Fault Refusal := aluOperand .ANA (.reg .C) s

/-- ANA D (R130). -/
def execAnaD (s : State) : Host.Outcome State Fault Refusal := aluOperand .ANA (.reg .D) s

/-- ANA E (R130). -/
def execAnaE (s : State) : Host.Outcome State Fault Refusal := aluOperand .ANA (.reg .E) s

/-- ANA H (R130). -/
def execAnaH (s : State) : Host.Outcome State Fault Refusal := aluOperand .ANA (.reg .H) s

/-- ANA L (R130). -/
def execAnaL (s : State) : Host.Outcome State Fault Refusal := aluOperand .ANA (.reg .L) s

/-- ANA A (R130). -/
def execAnaA (s : State) : Host.Outcome State Fault Refusal := aluOperand .ANA (.reg .A) s

/-- ANA M (R131). -/
def execAnaM (s : State) : Host.Outcome State Fault Refusal := aluOperand .ANA .M s

/-- ANI d8 (R138). -/
def execAni (d8 : Byte) (s : State) : Host.Outcome State Fault Refusal := aluImmediate .ANA d8 s

/-- XRA B (R132). -/
def execXraB (s : State) : Host.Outcome State Fault Refusal := aluOperand .XRA (.reg .B) s

/-- XRA C (R132). -/
def execXraC (s : State) : Host.Outcome State Fault Refusal := aluOperand .XRA (.reg .C) s

/-- XRA D (R132). -/
def execXraD (s : State) : Host.Outcome State Fault Refusal := aluOperand .XRA (.reg .D) s

/-- XRA E (R132). -/
def execXraE (s : State) : Host.Outcome State Fault Refusal := aluOperand .XRA (.reg .E) s

/-- XRA H (R132). -/
def execXraH (s : State) : Host.Outcome State Fault Refusal := aluOperand .XRA (.reg .H) s

/-- XRA L (R132). -/
def execXraL (s : State) : Host.Outcome State Fault Refusal := aluOperand .XRA (.reg .L) s

/-- XRA A (R132). -/
def execXraA (s : State) : Host.Outcome State Fault Refusal := aluOperand .XRA (.reg .A) s

/-- XRA M (R133). -/
def execXraM (s : State) : Host.Outcome State Fault Refusal := aluOperand .XRA .M s

/-- XRI d8 (R139). -/
def execXri (d8 : Byte) (s : State) : Host.Outcome State Fault Refusal := aluImmediate .XRA d8 s

/-- ORA B (R134). -/
def execOraB (s : State) : Host.Outcome State Fault Refusal := aluOperand .ORA (.reg .B) s

/-- ORA C (R134). -/
def execOraC (s : State) : Host.Outcome State Fault Refusal := aluOperand .ORA (.reg .C) s

/-- ORA D (R134). -/
def execOraD (s : State) : Host.Outcome State Fault Refusal := aluOperand .ORA (.reg .D) s

/-- ORA E (R134). -/
def execOraE (s : State) : Host.Outcome State Fault Refusal := aluOperand .ORA (.reg .E) s

/-- ORA H (R134). -/
def execOraH (s : State) : Host.Outcome State Fault Refusal := aluOperand .ORA (.reg .H) s

/-- ORA L (R134). -/
def execOraL (s : State) : Host.Outcome State Fault Refusal := aluOperand .ORA (.reg .L) s

/-- ORA A (R134). -/
def execOraA (s : State) : Host.Outcome State Fault Refusal := aluOperand .ORA (.reg .A) s

/-- ORA M (R135). -/
def execOraM (s : State) : Host.Outcome State Fault Refusal := aluOperand .ORA .M s

/-- ORI d8 (R140). -/
def execOri (d8 : Byte) (s : State) : Host.Outcome State Fault Refusal := aluImmediate .ORA d8 s

/-- CMP B (R136). -/
def execCmpB (s : State) : Host.Outcome State Fault Refusal := aluOperand .CMP (.reg .B) s

/-- CMP C (R136). -/
def execCmpC (s : State) : Host.Outcome State Fault Refusal := aluOperand .CMP (.reg .C) s

/-- CMP D (R136). -/
def execCmpD (s : State) : Host.Outcome State Fault Refusal := aluOperand .CMP (.reg .D) s

/-- CMP E (R136). -/
def execCmpE (s : State) : Host.Outcome State Fault Refusal := aluOperand .CMP (.reg .E) s

/-- CMP H (R136). -/
def execCmpH (s : State) : Host.Outcome State Fault Refusal := aluOperand .CMP (.reg .H) s

/-- CMP L (R136). -/
def execCmpL (s : State) : Host.Outcome State Fault Refusal := aluOperand .CMP (.reg .L) s

/-- CMP A (R136). -/
def execCmpA (s : State) : Host.Outcome State Fault Refusal := aluOperand .CMP (.reg .A) s

/-- CMP M (R137). -/
def execCmpM (s : State) : Host.Outcome State Fault Refusal := aluOperand .CMP .M s

/-- CPI d8 (R141). -/
def execCpi (d8 : Byte) (s : State) : Host.Outcome State Fault Refusal := aluImmediate .CMP d8 s

end Sys2Proof.Machine
end

