-- ==== Sys2Proof/Machine/MemoryTransfer.lean ====
section
/-! DEFINITION. Memory transfer and ports: STAX, LDAX, STA, LDA, SHLD, LHLD, IN, OUT (`spec/46_memory_transfer.md`). No flag is read
or written. -/
namespace Sys2Proof.Machine

/-- Store A at an address (R210, R212). -/
def storeAccumulator (len : Nat) (a : Word) (s : State) : Host.Outcome State Fault Refusal :=
  finish s do
    let t ← memWrite s (addrOf a) (s.reg .A)
    advance len t

/-- Load A from an address (R211, R213). -/
def loadAccumulator (len : Nat) (a : Word) (s : State) : Host.Outcome State Fault Refusal :=
  finish s do
    let v ← memRead s (addrOf a)
    advance len (s.setReg .A v)

/-- SHLD: L at `a16`, H at `a16 + 1` (R214, D12). -/
def storeHL (a16 : Word) (s : State) : Host.Outcome State Fault Refusal :=
  finish s do
    let t ← memWrite16 s (addrOf a16) (s.regPair .HL)
    advance 3 t

/-- LHLD: L from `a16`, H from `a16 + 1` (R215, D12). -/
def loadHL (a16 : Word) (s : State) : Host.Outcome State Fault Refusal :=
  finish s do
    let v ← memRead16 s (addrOf a16)
    advance 3 (s.setRegPair .HL v)

/-- IN: A becomes what the port answers; a port that answers none leaves A (R216, D5). -/
def inputPort (p8 : Byte) (s : State) : Host.Outcome State Fault Refusal :=
  finish s (advance 2 (match portInValue s.config p8 with
    | some v => s.setReg .A v
    | none => s))

/-- STAX B (R210). -/
def execStaxB (s : State) : Host.Outcome State Fault Refusal := storeAccumulator 1 (s.regPair .BC) s

/-- STAX D (R210). -/
def execStaxD (s : State) : Host.Outcome State Fault Refusal := storeAccumulator 1 (s.regPair .DE) s

/-- LDAX B (R211). -/
def execLdaxB (s : State) : Host.Outcome State Fault Refusal := loadAccumulator 1 (s.regPair .BC) s

/-- LDAX D (R211). -/
def execLdaxD (s : State) : Host.Outcome State Fault Refusal := loadAccumulator 1 (s.regPair .DE) s

/-- STA a16 (R212). -/
def execSta (a16 : Word) (s : State) : Host.Outcome State Fault Refusal := storeAccumulator 3 a16 s

/-- LDA a16 (R213). -/
def execLda (a16 : Word) (s : State) : Host.Outcome State Fault Refusal := loadAccumulator 3 a16 s

/-- SHLD a16 (R214). -/
def execShld (a16 : Word) (s : State) : Host.Outcome State Fault Refusal := storeHL a16 s

/-- LHLD a16 (R215). -/
def execLhld (a16 : Word) (s : State) : Host.Outcome State Fault Refusal := loadHL a16 s

/-- IN p8 (R216). -/
def execInPort (p8 : Byte) (s : State) : Host.Outcome State Fault Refusal := inputPort p8 s

/-- OUT p8 (R217). -/
def execOutPort (p8 : Byte) (s : State) : Host.Outcome State Fault Refusal := finish s (advance 2 (emitPortOut p8 (s.reg .A) s))

end Sys2Proof.Machine
end

