-- ==== Sys2Proof/Machine/Rotate.lean ====
section
/-! DEFINITION. Rotate: RLC, RRC, RAL, RAR (`spec/43_rotate.md`). -/
namespace Sys2Proof.Machine

/-- A rotate writes A and Carry and no other flag (R154). -/
def rotateAccumulator (r : Byte × Bool) (s : State) : Host.Outcome State Fault Refusal :=
  finish s (advance 1 ((s.setReg .A r.1).setCarry r.2))

/-- RLC (R150). -/
def execRlc (s : State) : Host.Outcome State Fault Refusal := rotateAccumulator (rotRLC (s.reg .A)) s

/-- RRC (R151). -/
def execRrc (s : State) : Host.Outcome State Fault Refusal := rotateAccumulator (rotRRC (s.reg .A)) s

/-- RAL (R152). -/
def execRal (s : State) : Host.Outcome State Fault Refusal := rotateAccumulator (rotRAL (s.reg .A) s.flags.CY) s

/-- RAR (R153). -/
def execRar (s : State) : Host.Outcome State Fault Refusal := rotateAccumulator (rotRAR (s.reg .A) s.flags.CY) s

end Sys2Proof.Machine
end

