-- ==== Sys2Proof/Machine/StackControl.lean ====
section
/-! DEFINITION. Stack and control transfer: JMP, Jcc, PCHL, CALL, Ccc, RET, Rcc, RST, PUSH, POP, XTHL, SPHL
(`spec/44_stack_control.md`). Only POP PSW writes a flag. -/
namespace Sys2Proof.Machine

/-- JMP and PCHL: the target becomes PC, unchecked (R160, R162, R163). -/
def jump (target : Word) (s : State) : Host.Outcome State Fault Refusal := finish s (.ok (jumpTo target s))

/-- Jcc: the jump when the condition holds, else `pc + 3` (R161). -/
def jumpIf (c : Cond) (a16 : Word) (s : State) : Host.Outcome State Fault Refusal :=
  finish s (if condHolds c s.flags then .ok (jumpTo a16 s) else advance 3 s)

/-- Ccc: the call when the condition holds, else `pc + 3` with no stack access (R166). -/
def callIf (c : Cond) (a16 : Word) (s : State) : Host.Outcome State Fault Refusal :=
  finish s (if condHolds c s.flags then callTo a16 3 s else advance 3 s)

/-- Rcc: the return when the condition holds, else `pc + 1` with no stack access (R168). -/
def returnIf (c : Cond) (s : State) : Host.Outcome State Fault Refusal :=
  finish s (if condHolds c s.flags then returnFrom s else advance 1 s)

/-- RST n: a one-byte call to `n * 8` (R169). -/
def restart (n : BitVec 3) (s : State) : Host.Outcome State Fault Refusal :=
  finish s (callTo (n.zeroExtend 16 * 8) 1 s)

/-- PUSH: push a 16-bit value (R170, R171). -/
def pushWord (v : Word) (s : State) : Host.Outcome State Fault Refusal :=
  finish s do
    let t ← push16 s v
    advance 1 t

/-- POP rp (R172). -/
def popPair (p : RegPair) (s : State) : Host.Outcome State Fault Refusal :=
  finish s do
    let (v, t) ← pop16 s
    advance 1 (t.setRegPair p v)

/-- POP PSW: the high byte to A, the flags from the low byte (R173). -/
def popAccumulatorAndFlags (s : State) : Host.Outcome State Fault Refusal :=
  finish s do
    let (v, t) ← pop16 s
    advance 1 ((t.setReg .A (hiByte v)).setFlags (flagsOfByte (loByte v)))

/-- XTHL: exchange HL with the two bytes at SP; SP is unchanged (R174). -/
def exchangeTopHL (s : State) : Host.Outcome State Fault Refusal :=
  finish s do
    let v ← memRead16 s (addrOf s.sp)
    let t ← memWrite16 s (addrOf s.sp) (s.regPair .HL)
    advance 1 (t.setRegPair .HL v)

/-- SPHL: load SP from HL, unchecked (R175). -/
def loadSPFromHL (s : State) : Host.Outcome State Fault Refusal :=
  finish s (advance 1 (s.setPair .SP (s.regPair .HL)))

/-- JMP a16 (R160). -/
def execJmp (a16 : Word) (s : State) : Host.Outcome State Fault Refusal := jump a16 s

/-- JNZ a16 (R161). -/
def execJnz (a16 : Word) (s : State) : Host.Outcome State Fault Refusal := jumpIf .NZ a16 s

/-- JZ a16 (R161). -/
def execJz (a16 : Word) (s : State) : Host.Outcome State Fault Refusal := jumpIf .Z a16 s

/-- JNC a16 (R161). -/
def execJnc (a16 : Word) (s : State) : Host.Outcome State Fault Refusal := jumpIf .NC a16 s

/-- JC a16 (R161). -/
def execJc (a16 : Word) (s : State) : Host.Outcome State Fault Refusal := jumpIf .C a16 s

/-- JPO a16 (R161). -/
def execJpo (a16 : Word) (s : State) : Host.Outcome State Fault Refusal := jumpIf .PO a16 s

/-- JPE a16 (R161). -/
def execJpe (a16 : Word) (s : State) : Host.Outcome State Fault Refusal := jumpIf .PE a16 s

/-- JP a16 (R161). -/
def execJp (a16 : Word) (s : State) : Host.Outcome State Fault Refusal := jumpIf .P a16 s

/-- JM a16 (R161). -/
def execJm (a16 : Word) (s : State) : Host.Outcome State Fault Refusal := jumpIf .M a16 s

/-- PCHL (R162). -/
def execPchl (s : State) : Host.Outcome State Fault Refusal := jump (s.regPair .HL) s

/-- CALL a16 (R165). -/
def execCall (a16 : Word) (s : State) : Host.Outcome State Fault Refusal := finish s (callTo a16 3 s)

/-- CNZ a16 (R166). -/
def execCnz (a16 : Word) (s : State) : Host.Outcome State Fault Refusal := callIf .NZ a16 s

/-- CZ a16 (R166). -/
def execCz (a16 : Word) (s : State) : Host.Outcome State Fault Refusal := callIf .Z a16 s

/-- CNC a16 (R166). -/
def execCnc (a16 : Word) (s : State) : Host.Outcome State Fault Refusal := callIf .NC a16 s

/-- CC a16 (R166). -/
def execCc (a16 : Word) (s : State) : Host.Outcome State Fault Refusal := callIf .C a16 s

/-- CPO a16 (R166). -/
def execCpo (a16 : Word) (s : State) : Host.Outcome State Fault Refusal := callIf .PO a16 s

/-- CPE a16 (R166). -/
def execCpe (a16 : Word) (s : State) : Host.Outcome State Fault Refusal := callIf .PE a16 s

/-- CP a16 (R166). -/
def execCp (a16 : Word) (s : State) : Host.Outcome State Fault Refusal := callIf .P a16 s

/-- CM a16 (R166). -/
def execCm (a16 : Word) (s : State) : Host.Outcome State Fault Refusal := callIf .M a16 s

/-- RET (R167). -/
def execRet (s : State) : Host.Outcome State Fault Refusal := finish s (returnFrom s)

/-- RNZ (R168). -/
def execRnz (s : State) : Host.Outcome State Fault Refusal := returnIf .NZ s

/-- RZ (R168). -/
def execRz (s : State) : Host.Outcome State Fault Refusal := returnIf .Z s

/-- RNC (R168). -/
def execRnc (s : State) : Host.Outcome State Fault Refusal := returnIf .NC s

/-- RC (R168). -/
def execRc (s : State) : Host.Outcome State Fault Refusal := returnIf .C s

/-- RPO (R168). -/
def execRpo (s : State) : Host.Outcome State Fault Refusal := returnIf .PO s

/-- RPE (R168). -/
def execRpe (s : State) : Host.Outcome State Fault Refusal := returnIf .PE s

/-- RP (R168). -/
def execRp (s : State) : Host.Outcome State Fault Refusal := returnIf .P s

/-- RM (R168). -/
def execRm (s : State) : Host.Outcome State Fault Refusal := returnIf .M s

/-- RST 0 (R169). -/
def execRst0 (s : State) : Host.Outcome State Fault Refusal := restart 0 s

/-- RST 1 (R169). -/
def execRst1 (s : State) : Host.Outcome State Fault Refusal := restart 1 s

/-- RST 2 (R169). -/
def execRst2 (s : State) : Host.Outcome State Fault Refusal := restart 2 s

/-- RST 3 (R169). -/
def execRst3 (s : State) : Host.Outcome State Fault Refusal := restart 3 s

/-- RST 4 (R169). -/
def execRst4 (s : State) : Host.Outcome State Fault Refusal := restart 4 s

/-- RST 5 (R169). -/
def execRst5 (s : State) : Host.Outcome State Fault Refusal := restart 5 s

/-- RST 6 (R169). -/
def execRst6 (s : State) : Host.Outcome State Fault Refusal := restart 6 s

/-- RST 7 (R169). -/
def execRst7 (s : State) : Host.Outcome State Fault Refusal := restart 7 s

/-- PUSH B (R170). -/
def execPushB (s : State) : Host.Outcome State Fault Refusal := pushWord (s.regPair .BC) s

/-- PUSH D (R170). -/
def execPushD (s : State) : Host.Outcome State Fault Refusal := pushWord (s.regPair .DE) s

/-- PUSH H (R170). -/
def execPushH (s : State) : Host.Outcome State Fault Refusal := pushWord (s.regPair .HL) s

/-- PUSH PSW (R171). -/
def execPushPSW (s : State) : Host.Outcome State Fault Refusal := pushWord (joinBytes (s.reg .A) (flagsByte s.flags)) s

/-- POP B (R172). -/
def execPopB (s : State) : Host.Outcome State Fault Refusal := popPair .BC s

/-- POP D (R172). -/
def execPopD (s : State) : Host.Outcome State Fault Refusal := popPair .DE s

/-- POP H (R172). -/
def execPopH (s : State) : Host.Outcome State Fault Refusal := popPair .HL s

/-- POP PSW (R173). -/
def execPopPSW (s : State) : Host.Outcome State Fault Refusal := popAccumulatorAndFlags s

/-- XTHL (R174). -/
def execXthl (s : State) : Host.Outcome State Fault Refusal := exchangeTopHL s

/-- SPHL (R175). -/
def execSphl (s : State) : Host.Outcome State Fault Refusal := loadSPFromHL s

end Sys2Proof.Machine
end

