-- ==== Sys2Proof/Machine/Step.lean ====
section
/-! DEFINITION. One step of the core (R58), and the placing of one instruction where the next step fetches it. -/
namespace Sys2Proof.Machine

/-- `Step()` (R58). A faulted core has no step and answers the fault that stopped it (R21, U7); a halted core has none either
(R20, U6, D20). A fault of the fetch, like one of the instruction, is taken into the FAULT latch (R232). -/
def step (s : State) : Host.Outcome State Fault Refusal :=
  match s.fault with
  | some k => .fault k
  | none =>
    if s.halted then .refused .stepAfterHalt
    else
      match fetch s with
      | .error k => .next (takeFault k s)
      | .ok i => exec i s

/-- `Mem[a] <- v` where `a` is an address of memory, nothing elsewhere. -/
def State.placeByte (s : State) (a : Int) (v : Byte) : State := if s.inMemory a then s.setByteAt a v else s

/-- `s` with the three bytes of an instruction, numbered as the opcode table numbers them, at PC: a program byte placed by the
host as an image would have placed it (R261; assumption log 9). -/
def State.withFetchWord (s : State) (nbits w : Nat) : State :=
  match tableBytes nbits w with
  | [b1, b2, b3] =>
    ((s.placeByte (addrOf s.pc) b1).placeByte (addrOf s.pc + 1) b2).placeByte (addrOf s.pc + 2) b3
  | _ => s

end Sys2Proof.Machine
end

