-- ==== Sys2Proof/Machine/Driver.lean ====
section
/-! DEFINITION. The rest of the block's interface (R6): Reset with an image, the result of a step, running to the end, the
numbers this spec gives the fault kinds, and the text form of an operand (R66). -/
namespace Sys2Proof.Machine

/-- `Reset(IMAGE)` for a core with parameters `c` (R260, R261). It does not depend on the state before, so it is accepted in
any state. An image longer than MEM_SIZE is refused (D3). -/
def resetWith (c : Config) (image : List Byte) : Host.Outcome State Fault Refusal :=
  if image.length ≤ c.memSize then
    .next { State.reset with config := c, sp := c.spReset, mem := Memory.load [] 0 image }
  else .refused .imageTooLarge

/-- What a step returns to its caller (R6). -/
inductive StepResult where
  | continue_
  | halt
  | fault (k : Fault)
  deriving DecidableEq, Repr

/-- The result of the step that answered the state `t` (R6, R58, R232): the fault when the step raised one, `halt` when it
executed HLT, else `continue`. -/
def stepResult (t : State) : StepResult :=
  match t.fault with
  | some k => .fault k
  | none => if t.halted then .halt else .continue_

/-- `RunToHalt()`, at most `fuel` steps of it: repeat `step` until the result is not `continue` (R6). The state answered is
the one `Observe` shows. -/
def runToHalt (fuel : Nat) (s : State) : Host.Outcome State Fault Refusal :=
  match fuel with
  | 0 => .next s
  | fuel + 1 =>
    match step s with
    | .next t => if stepResult t = .continue_ then runToHalt fuel t else .next t
    | .fault k => .fault k
    | .refused r => .refused r

/-- The number of a fault kind: 0 none, 1 DecodeError, 2 BoundsError (R231, D17). -/
def faultCode (f : Option Fault) : Nat :=
  match f with
  | none => 0
  | some (.decodeError _ _) => 1
  | some (.boundsError _) => 2

/-- The text form of an operand (R66), its hexadecimal digits as numbers, high digit first: the case of a digit is not in the
source (N9). -/
inductive OperandText where
  /-- `#$xx`, an 8-bit immediate. -/
  | immediate (digits : List Nat)
  /-- `$hhll`, a 16-bit address, high byte first. -/
  | address (digits : List Nat)
  deriving DecidableEq, Repr

/-- The two hexadecimal digits of a byte, high digit first. -/
def hexDigits (b : Byte) : List Nat := [highNibble b, lowNibble b]

/-- `#$xx` (R66). -/
def immediateText (d8 : Byte) : OperandText := .immediate (hexDigits d8)

/-- `$hhll`, reassembled from the little-endian operand bytes (R57, R66). -/
def addressText (a16 : Word) : OperandText := .address (hexDigits (hiByte a16) ++ hexDigits (loByte a16))

end Sys2Proof.Machine
end

