-- ==== Sys2Proof/Safety.lean ====
section
/-! DEFINITION. The terms claims use: which states run, the invariant of the model, and the spec's own tables about all
instructions, written from the spec's words and not from the meanings: data accesses (R35), the next PC (R14), the order of
faults (R236), the flags, registers and control state an instruction may write (R10, R15, R16, R19, R20). The last row of each
of those tables reads "every other instruction", and so does the last arm here. -/
namespace Sys2Proof.Safety

open Sys2Proof.Machine

/-! ## States -/

/-- A core that has a step: HALTED = 0 and FAULT = none (R58). -/
def Running (s : State) : Prop := s.halted = false ∧ s.fault = none

/-- The end of a successful run: HALTED = 1 and no fault (R264, D10). -/
def Final (s : State) : Prop := s.halted = true ∧ s.fault = none

/-- A run ends in one of two ways, never in both (R264). -/
def endsOnce (s : State) : Bool := !(s.halted && s.fault.isSome)

/-- The invariant of the model: the parameters are ones R4 allows, memory is in its canonical form and lists no address at or
above MEM_SIZE (R22), and the core is not both halted and faulted (R264). -/
def wellFormed (s : State) : Bool :=
  s.config.wellFormed && s.mem.wf && s.mem.within s.config.memSize && endsOnce s

/-! ## Transfers and the next PC (R14) -/

/-- The 16-bit value the two bytes at SP make, low byte at SP (R40). -/
def topOfStack (s : State) : Word := joinBytes (s.byteAt (addrOf s.sp + 1)) (s.byteAt (addrOf s.sp))

/-- The target of a transfer that is taken; none for an untaken conditional and for an instruction that is no transfer. -/
def takenTarget (i : Instr) (s : State) : Option Word :=
  match i with
  | .jmp a16 | .call a16 => some a16
  | .pchl => some (s.regPair .HL)
  | .ret => some (topOfStack s)
  | .jnz a16 | .cnz a16 => if condHolds .NZ s.flags then some a16 else none
  | .jz a16 | .cz a16 => if condHolds .Z s.flags then some a16 else none
  | .jnc a16 | .cnc a16 => if condHolds .NC s.flags then some a16 else none
  | .jc a16 | .cc a16 => if condHolds .C s.flags then some a16 else none
  | .jpo a16 | .cpo a16 => if condHolds .PO s.flags then some a16 else none
  | .jpe a16 | .cpe a16 => if condHolds .PE s.flags then some a16 else none
  | .jp a16 | .cp a16 => if condHolds .P s.flags then some a16 else none
  | .jm a16 | .cm a16 => if condHolds .M s.flags then some a16 else none
  | .rnz => if condHolds .NZ s.flags then some (topOfStack s) else none
  | .rz => if condHolds .Z s.flags then some (topOfStack s) else none
  | .rnc => if condHolds .NC s.flags then some (topOfStack s) else none
  | .rc => if condHolds .C s.flags then some (topOfStack s) else none
  | .rpo => if condHolds .PO s.flags then some (topOfStack s) else none
  | .rpe => if condHolds .PE s.flags then some (topOfStack s) else none
  | .rp => if condHolds .P s.flags then some (topOfStack s) else none
  | .rm => if condHolds .M s.flags then some (topOfStack s) else none
  | .rst0 => some 0x0000
  | .rst1 => some 0x0008
  | .rst2 => some 0x0010
  | .rst3 => some 0x0018
  | .rst4 => some 0x0020
  | .rst5 => some 0x0028
  | .rst6 => some 0x0030
  | .rst7 => some 0x0038
  | _ => none

/-- `npc` (R14): the target of a taken transfer, `pc` for HLT, `pc + len` for every other instruction. -/
def nextPC (i : Instr) (s : State) : Nat :=
  match i with
  | .hlt => s.pc.toNat
  | _ => match takenTarget i s with
    | some target => target.toNat
    | none => s.pc.toNat + i.length

/-! ## Data accesses (R35) -/

/-- The address M stands for (R12). -/
def addrM (s : State) : Int := addrOf (s.regPair .HL)

/-- The two addresses a push writes, in the order R35 lists them. -/
def pushAddrs (s : State) : List Int := [addrOf s.sp - 1, addrOf s.sp - 2]

/-- The two addresses a pop reads, in the order R35 lists them. -/
def popAddrs (s : State) : List Int := [addrOf s.sp, addrOf s.sp + 1]

/-- The addresses an instruction reads as data (R35, column "reads"). -/
def readAddrs (i : Instr) (s : State) : List Int :=
  match i with
  | .movBM | .movCM | .movDM | .movEM | .movHM | .movLM | .movAM | .addM | .adcM | .subM | .sbbM | .anaM
  | .xraM | .oraM | .cmpM | .inrM | .dcrM => [addrM s]
  | .ldaxB => [addrOf (s.regPair .BC)]
  | .ldaxD => [addrOf (s.regPair .DE)]
  | .lda a16 => [addrOf a16]
  | .lhld a16 => [addrOf a16, addrOf a16 + 1]
  | .popB | .popD | .popH | .popPSW | .ret | .xthl => popAddrs s
  | .rnz | .rz | .rnc | .rc | .rpo | .rpe | .rp | .rm => if (takenTarget i s).isSome then popAddrs s else []
  | _ => []

/-- The addresses an instruction writes (R35, column "writes"). -/
def writeAddrs (i : Instr) (s : State) : List Int :=
  match i with
  | .movMB | .movMC | .movMD | .movME | .movMH | .movML | .movMA | .mviM _ | .inrM | .dcrM => [addrM s]
  | .staxB => [addrOf (s.regPair .BC)]
  | .staxD => [addrOf (s.regPair .DE)]
  | .sta a16 => [addrOf a16]
  | .shld a16 => [addrOf a16, addrOf a16 + 1]
  | .xthl => popAddrs s
  | .pushB | .pushD | .pushH | .pushPSW | .call _ | .rst0 | .rst1 | .rst2 | .rst3 | .rst4 | .rst5 | .rst6
  | .rst7 => pushAddrs s
  | .cnz _ | .cz _ | .cnc _ | .cc _ | .cpo _ | .cpe _ | .cp _ | .cm _ => if (takenTarget i s).isSome then pushAddrs s else []
  | _ => []

/-! ## Faults in order (R236) -/

/-- BoundsError of an address outside memory (R31). -/
def outside (s : State) (a : Int) : Option Fault := if s.inMemory a then none else some (.boundsError a)

/-- BoundsError of a number that does not fit in 16 bits (R14, R40, R164). -/
def tooWide (n : Nat) : Option Fault := if n ≤ 0xFFFF then none else some (.boundsError n)

/-- Item 5: the return address of CALL, a taken Ccc and RST. -/
def returnAddressFault (i : Instr) (s : State) : Option Fault :=
  match i with
  | .call _ => tooWide (s.pc.toNat + 3)
  | .cnz _ | .cz _ | .cnc _ | .cc _ | .cpo _ | .cpe _ | .cp _ | .cm _ => if (takenTarget i s).isSome then tooWide (s.pc.toNat + 3) else none
  | .rst0 | .rst1 | .rst2 | .rst3 | .rst4 | .rst5 | .rst6 | .rst7 => tooWide (s.pc.toNat + 1)
  | _ => none

/-- Item 6, its last entry: the stack pointer a pop leaves. -/
def poppedSPFault (i : Instr) (s : State) : Option Fault :=
  match i with
  | .popB | .popD | .popH | .popPSW | .ret => tooWide (s.sp.toNat + 2)
  | .rnz | .rz | .rnc | .rc | .rpo | .rpe | .rp | .rm => if (takenTarget i s).isSome then tooWide (s.sp.toNat + 2) else none
  | _ => none

/-- Items 5 and 6: the first fault of an instruction before its PC advance; reads before writes, each in listed order. -/
def accessFault (i : Instr) (s : State) : Option Fault :=
  returnAddressFault i s
    <|> (readAddrs i s).findSome? (outside s)
    <|> (writeAddrs i s).findSome? (outside s)
    <|> poppedSPFault i s

/-- Items 5 to 7: the first fault of an instruction that has been fetched. -/
def execFault (i : Instr) (s : State) : Option Fault := accessFault i s <|> tooWide (nextPC i s)

/-- The opcode byte at PC. -/
def opcodeAt (s : State) : Byte := s.byteAt (addrOf s.pc)

/-- The instruction the three bytes at PC make (bytes outside memory are not looked at, R58). -/
def instrAt (s : State) : Instr :=
  decodeOpcode (opcodeAt s) (s.byteAt (addrOf s.pc + 1)) (s.byteAt (addrOf s.pc + 2))

/-- Items 1 to 7: the one fault a step reports, none when it completes (R236). -/
def stepFault (s : State) : Option Fault :=
  outside s (addrOf s.pc)
    <|> (if s.config.undefSet.contains (opcodeAt s) then some (.decodeError s.pc (opcodeAt s)) else none)
    <|> (if 2 ≤ opcodeLength (opcodeAt s) then outside s (addrOf s.pc + 1) else none)
    <|> (if 3 ≤ opcodeLength (opcodeAt s) then outside s (addrOf s.pc + 2) else none)
    <|> execFault (instrAt s) s

/-! ## What an instruction may write -/

/-- The five flags by name. -/
inductive FlagName where
  | Z | S | P | CY | AC
  deriving DecidableEq, Repr

/-- The value of a flag. -/
def flagValue (f : Flags) (n : FlagName) : Bool :=
  match n with
  | .Z => f.Z
  | .S => f.S
  | .P => f.P
  | .CY => f.CY
  | .AC => f.AC

/-- The flags an instruction writes: the table of R16. -/
def flagsWritten (i : Instr) : List FlagName :=
  match i with
  | .addB | .addC | .addD | .addE | .addH | .addL | .addA | .addM | .adcB | .adcC | .adcD | .adcE | .adcH
  | .adcL | .adcA | .adcM | .subB | .subC | .subD | .subE | .subH | .subL | .subA | .subM | .sbbB | .sbbC
  | .sbbD | .sbbE | .sbbH | .sbbL | .sbbA | .sbbM | .anaB | .anaC | .anaD | .anaE | .anaH | .anaL | .anaA
  | .anaM | .xraB | .xraC | .xraD | .xraE | .xraH | .xraL | .xraA | .xraM | .oraB | .oraC | .oraD | .oraE
  | .oraH | .oraL | .oraA | .oraM | .cmpB | .cmpC | .cmpD | .cmpE | .cmpH | .cmpL | .cmpA | .cmpM | .adi _
  | .aci _ | .sui _ | .sbi _ | .ani _ | .xri _ | .ori _ | .cpi _ | .daa | .popPSW => [.Z, .S, .P, .CY, .AC]
  | .inrB | .inrC | .inrD | .inrE | .inrH | .inrL | .inrA | .inrM | .dcrB | .dcrC | .dcrD | .dcrE | .dcrH
  | .dcrL | .dcrA | .dcrM => [.Z, .S, .P, .AC]
  | .dadB | .dadD | .dadH | .dadSP | .rlc | .rrc | .ral | .rar | .stc | .cmc => [.CY]
  | _ => []

/-- The bitwise operations, whose row of R16 reads 0 under CY and AC. -/
def isBitwise (i : Instr) : Bool :=
  match i with
  | .anaB | .anaC | .anaD | .anaE | .anaH | .anaL | .anaA | .anaM | .xraB | .xraC | .xraD | .xraE | .xraH
  | .xraL | .xraA | .xraM | .oraB | .oraC | .oraD | .oraE | .oraH | .oraL | .oraA | .oraM | .ani _
  | .xri _ | .ori _ => true
  | _ => false

/-- The general registers an instruction may write (the destination of its rule). -/
def regsWritten (i : Instr) : List Reg :=
  match i with
  | .movBB | .movBC | .movBD | .movBE | .movBH | .movBL | .movBA | .movBM | .mviB _ | .inrB | .dcrB => [.B]
  | .movCB | .movCC | .movCD | .movCE | .movCH | .movCL | .movCA | .movCM | .mviC _ | .inrC | .dcrC => [.C]
  | .movDB | .movDC | .movDD | .movDE | .movDH | .movDL | .movDA | .movDM | .mviD _ | .inrD | .dcrD => [.D]
  | .movEB | .movEC | .movED | .movEE | .movEH | .movEL | .movEA | .movEM | .mviE _ | .inrE | .dcrE => [.E]
  | .movHB | .movHC | .movHD | .movHE | .movHH | .movHL | .movHA | .movHM | .mviH _ | .inrH | .dcrH => [.H]
  | .movLB | .movLC | .movLD | .movLE | .movLH | .movLL | .movLA | .movLM | .mviL _ | .inrL | .dcrL => [.L]
  | .movAB | .movAC | .movAD | .movAE | .movAH | .movAL | .movAA | .movAM | .mviA _ | .inrA | .dcrA
  | .addB | .addC | .addD | .addE | .addH | .addL | .addA | .addM | .adcB | .adcC | .adcD | .adcE | .adcH
  | .adcL | .adcA | .adcM | .subB | .subC | .subD | .subE | .subH | .subL | .subA | .subM | .sbbB | .sbbC
  | .sbbD | .sbbE | .sbbH | .sbbL | .sbbA | .sbbM | .anaB | .anaC | .anaD | .anaE | .anaH | .anaL | .anaA
  | .anaM | .xraB | .xraC | .xraD | .xraE | .xraH | .xraL | .xraA | .xraM | .oraB | .oraC | .oraD | .oraE
  | .oraH | .oraL | .oraA | .oraM | .adi _ | .aci _ | .sui _ | .sbi _ | .ani _ | .xri _ | .ori _ | .rlc
  | .rrc | .ral | .rar | .cma | .daa | .ldaxB | .ldaxD | .lda _ | .inPort _ | .popPSW => [.A]
  | .lxiB _ | .inxB | .dcxB | .popB => [.B, .C]
  | .lxiD _ | .inxD | .dcxD | .popD => [.D, .E]
  | .lxiH _ | .inxH | .dcxH | .popH | .dadB | .dadD | .dadH | .dadSP | .lhld _ | .xthl => [.H, .L]
  | .xchg => [.D, .E, .H, .L]
  | _ => []

/-- The instructions that may write SP (R15). -/
def writesSP (i : Instr) : Bool :=
  match i with
  | .lxiSP _ | .inxSP | .dcxSP | .sphl | .pushB | .pushD | .pushH | .pushPSW | .popB | .popD | .popH
  | .popPSW | .call _ | .ret | .cnz _ | .cz _ | .cnc _ | .cc _ | .cpo _ | .cpe _ | .cp _ | .cm _ | .rnz
  | .rz | .rnc | .rc | .rpo | .rpe | .rp | .rm | .rst0 | .rst1 | .rst2 | .rst3 | .rst4 | .rst5 | .rst6
  | .rst7 => true
  | _ => false

/-! ## Sources of an accumulator operation -/

/-- Where an accumulator operation takes its second operand: a register, M, or an immediate byte (R56). -/
inductive Source where
  | reg (r : Reg)
  | M
  | imm (d8 : Byte)
  deriving DecidableEq, Repr

/-- The instruction that applies `op` to a source. -/
def Source.instr (src : Source) (op : AluOp) : Instr :=
  match src with
  | .reg r => aluRegOf op r
  | .M => aluMOf op
  | .imm d8 => aluImmOf op d8

/-- The operand's value: the register, the byte of memory at HL, or the immediate. -/
def Source.value (src : Source) (s : State) : Byte :=
  match src with
  | .reg r => s.regs.get r
  | .M => s.byteAt (addrM s)
  | .imm d8 => d8

/-- The operand can be read: M lies in memory. -/
def Source.readable (src : Source) (s : State) : Bool :=
  match src with
  | .reg _ => true
  | .M => s.inMemory (addrM s)
  | .imm _ => true

/-- The length of the instruction in bytes. -/
def Source.length (src : Source) : Nat :=
  match src with
  | .reg _ => 1
  | .M => 1
  | .imm _ => 2

end Sys2Proof.Safety
end

