-- ==== Sys2Proof/Certificates/Slice0/Obligations.lean ====
section
/-! DEFINITION. The statements for the provers. Results are stated in numbers, not by the functions the meanings call. Where a
statement speaks of "every step" or "every instruction", it holds in every state its hypotheses admit, reached or not. -/

open Sys2Proof Sys2Proof.Machine Sys2Proof.Safety

/-! ## Encoding and decoding -/

/-- Words written out from R59 to R62 (an opcode map the spec took from general knowledge: D22, log 11): an instruction of
each quadrant and format decodes to the instruction it stands for; a cut-off JMP (R45) and an opcode of UNDEF_SET (R64; the
spec's own choice D4, log 16) are rejected by name. -/
def Obligations.SampleWordsDecode : Prop :=
  decode [] [0b00100001, 0x34, 0x12] = .ok (.lxiH 0x1234, [])
    ∧ decode [] [0b00111110, 0x05, 0x76] = .ok (.mviA 0x05, [0x76])
    ∧ decode [] [0b01110110] = .ok (.hlt, [])
    ∧ decode [] [0b01111000] = .ok (.movAB, [])
    ∧ decode [] [0b10011101] = .ok (.sbbL, [])
    ∧ decode [] [0b11001010, 0x00, 0x20] = .ok (.jz 0x2000, [])
    ∧ decode [] [0b11011111] = .ok (.rst3, [])
    ∧ decode [] [0b11110101] = .ok (.pushPSW, [])
    ∧ decode [] [0b11010011, 0x01] = .ok (.outPort 0x01, [])
    ∧ decode [] [0b11000011, 0x34] = .error (.operandMissing 0xC3)
    ∧ decode [0x08] [0x08] = .error (.undefinedOpcode 0x08)

/-- Decoding the encoding of any instruction gives it back, with every operand at every value, whatever follows it and
whatever UNDEF_SET R64 allows. -/
def Obligations.DecodeOfEncodeIsInstruction : Prop :=
  ∀ (undef : List Byte) (i : Instr) (rest : List Byte), (∀ op ∈ undef, op ∈ aliasOpcodes) →
    decode undef (encode i ++ rest) = .ok (i, rest)

/-- Bytes that decode, and do not begin with an alias opcode, are the encoding of what they decode to. -/
def Obligations.EncodeOfDecodeIsBytes : Prop :=
  ∀ (undef : List Byte) (op : Byte) (bytes rest : List Byte) (i : Instr), op ∉ aliasOpcodes →
    decode undef (op :: bytes) = .ok (i, rest) → encode i ++ rest = op :: bytes

/-- R63 (which values they are: D22, log 11): each alias opcode executes as the instruction its row names, with the same
length and the same operands. -/
def Obligations.AliasOpcodesDecodeAsCanonical : Prop :=
  ∀ b2 b3 : Byte,
    (∀ op ∈ ([0x08, 0x10, 0x18, 0x20, 0x28, 0x30, 0x38] : List Byte),
      decodeOpcode op b2 b3 = .nop ∧ decodeOpcode op b2 b3 = decodeOpcode 0x00 b2 b3 ∧ opcodeLength op = 1)
    ∧ (decodeOpcode 0xCB b2 b3 = .jmp (joinBytes b3 b2) ∧ decodeOpcode 0xCB b2 b3 = decodeOpcode 0xC3 b2 b3
      ∧ opcodeLength 0xCB = 3)
    ∧ (decodeOpcode 0xD9 b2 b3 = .ret ∧ decodeOpcode 0xD9 b2 b3 = decodeOpcode 0xC9 b2 b3 ∧ opcodeLength 0xD9 = 1)
    ∧ (∀ op ∈ ([0xDD, 0xED, 0xFD] : List Byte),
      decodeOpcode op b2 b3 = .call (joinBytes b3 b2) ∧ decodeOpcode op b2 b3 = decodeOpcode 0xCD b2 b3
        ∧ opcodeLength op = 3)

/-- R53, R56, R60, R61 (the canonical map: D22, log 11): the opcodes of MOV are `0x40 + 8*ddd + sss` and those of the
accumulator operations `0x80 + 8*alu + sss`, with the register codes B, C, D, E, H, L, M, A and the operation codes ADD, ADC,
SUB, SBB, ANA, XRA, ORA, CMP = 0 to 7. -/
def Obligations.OpcodesOfMovAndAluByFormula : Prop :=
  ∀ (y z : BitVec 3) (b2 b3 : Byte),
    (decodeOpcode (0x40 + 8 * y.zeroExtend 8 + z.zeroExtend 8) b2 b3 =
      match operandOfCode y, operandOfCode z with
      | .reg d, .reg r => movOf d r
      | .reg d, .M => movFromMOf d
      | .M, .reg r => movToMOf r
      | .M, .M => .hlt)
    ∧ (decodeOpcode (0x80 + 8 * y.zeroExtend 8 + z.zeroExtend 8) b2 b3 =
      match operandOfCode z with
      | .reg r => aluRegOf (aluOfCode y) r
      | .M => aluMOf (aluOfCode y))
    ∧ [Operand8.reg .B, .reg .C, .reg .D, .reg .E, .reg .H, .reg .L, .M, .reg .A][y.toNat]? = some (operandOfCode y)
    ∧ [AluOp.ADD, .ADC, .SUB, .SBB, .ANA, .XRA, .ORA, .CMP][y.toNat]? = some (aluOfCode y)

/-- R50, R58 (the lengths: D22, log 11): `Length(op)` is the number of bytes of the instruction the opcode decodes to, 1, 2 or
3, for all 256 opcodes. -/
def Obligations.OpcodeLengthIsEncodedLength : Prop :=
  ∀ op b2 b3 : Byte, opcodeLength op = (decodeOpcode op b2 b3).length ∧ 1 ≤ opcodeLength op ∧ opcodeLength op ≤ 3

/-- R55 (the codes: D22, log 11): the condition of code `ccc` tests the flag its bits 2:1 (opcode bits 5:4) pick among Z, CY,
P, S, and is true when the flag has the value of its bit 0 (opcode bit 3). -/
def Obligations.ConditionCodesPickFlagAndValue : Prop :=
  ∀ (ccc : BitVec 3) (f : Flags),
    [Cond.NZ, .Z, .NC, .C, .PO, .PE, .P, .M][ccc.toNat]? = some (condOfCode ccc)
    ∧ (condHolds (condOfCode ccc) f = true ↔ [f.Z, f.CY, f.P, f.S][ccc.toNat / 2]? = some (decide (ccc.toNat % 2 = 1)))

/-! ## Registers and flags -/

/-- R11: a pair's first-named register is its high byte; writing the pair writes both registers and no other; `rp[SP]` is SP.
-/
def Obligations.PairViewsHighByteFirst : Prop :=
  ∀ (s : State) (v : Word),
    (s.pair (.rp .BC)).toNat = 256 * s.regs.B.toNat + s.regs.C.toNat
    ∧ (s.pair (.rp .DE)).toNat = 256 * s.regs.D.toNat + s.regs.E.toNat
    ∧ (s.pair (.rp .HL)).toNat = 256 * s.regs.H.toNat + s.regs.L.toNat
    ∧ s.pair .SP = s.sp
    ∧ s.setPair (.rp .BC) v =
        { s with regs := { s.regs with B := BitVec.ofNat 8 (v.toNat / 256), C := BitVec.ofNat 8 (v.toNat % 256) } }
    ∧ s.setPair (.rp .DE) v =
        { s with regs := { s.regs with D := BitVec.ofNat 8 (v.toNat / 256), E := BitVec.ofNat 8 (v.toNat % 256) } }
    ∧ s.setPair (.rp .HL) v =
        { s with regs := { s.regs with H := BitVec.ofNat 8 (v.toNat / 256), L := BitVec.ofNat 8 (v.toNat % 256) } }
    ∧ s.setPair .SP v = { s with sp := v }
    ∧ ∀ p : Pair, (s.setPair p v).pair p = v

/-- R17 (S and P: the spec's own choice D21, log 12): Z when the value is zero, S its bit 7, P when the number of its one bits
is even. -/
def Obligations.ResultFlagsFollowValue : Prop :=
  ∀ (v : Byte) (cy ac : Bool),
    ((zspWith v cy ac).Z = true ↔ v.toNat = 0)
    ∧ ((zspWith v cy ac).S = true ↔ 128 ≤ v.toNat)
    ∧ ((zspWith v cy ac).P = true ↔ Even (Finset.univ.filter (fun k : Fin 8 => v.getLsbD k = true)).card)
    ∧ (zspWith v cy ac).CY = cy ∧ (zspWith v cy ac).AC = ac

/-- R18 (the layout: the spec's own choice D9, log 13): the flags byte is S Z 0 AC 0 P 1 CY, 0x02 with all flags clear;
reading the flags from a byte takes bits 7, 6, 4, 2, 0 and ignores bits 5, 3, 1, and gives back what FlagsByte wrote. -/
def Obligations.FlagsByteLayout : Prop :=
  (∀ f : Flags, (flagsByte f).toNat =
      128 * f.S.toNat + 64 * f.Z.toNat + 16 * f.AC.toNat + 4 * f.P.toNat + 2 + f.CY.toNat)
  ∧ flagsByte Flags.zero = 0x02
  ∧ (∀ b : Byte, flagsOfByte b =
      { S := b.getLsbD 7, Z := b.getLsbD 6, AC := b.getLsbD 4, P := b.getLsbD 2, CY := b.getLsbD 0 })
  ∧ (∀ b : Byte, flagsOfByte b = flagsOfByte (b &&& 0b11010101))
  ∧ ∀ f : Flags, flagsOfByte (flagsByte f) = f

/-- R119 (the AC formula: the spec's own choice D13, log 12): `Add8(a, b, cin)` in numbers. -/
def Obligations.AddWithCarryFunction : Prop :=
  ∀ (a b : Byte) (cin : Bool),
    (add8 a b cin).1.toNat = (a.toNat + b.toNat + cin.toNat) % 256
    ∧ ((add8 a b cin).2.CY = true ↔ 256 ≤ a.toNat + b.toNat + cin.toNat)
    ∧ ((add8 a b cin).2.AC = true ↔ 16 ≤ a.toNat % 16 + b.toNat % 16 + cin.toNat)
    ∧ ((add8 a b cin).2.Z = true ↔ (a.toNat + b.toNat + cin.toNat) % 256 = 0)
    ∧ (add8 a b cin).2.S = (add8 a b cin).1.getLsbD 7
    ∧ (add8 a b cin).2.P = parity (add8 a b cin).1

/-- R120 (the AC formula: the spec's own choice D13, log 12): `Sub8(a, b, bin)` in numbers: CY is the borrow, AC is 1 exactly
when there is no borrow from bit 4. -/
def Obligations.SubtractWithBorrowFunction : Prop :=
  ∀ (a b : Byte) (bin : Bool),
    (sub8 a b bin).1.toNat = (a.toNat + 512 - b.toNat - bin.toNat) % 256
    ∧ ((sub8 a b bin).2.CY = true ↔ a.toNat < b.toNat + bin.toNat)
    ∧ ((sub8 a b bin).2.AC = true ↔ b.toNat % 16 + bin.toNat ≤ a.toNat % 16)
    ∧ ((sub8 a b bin).2.AC = true ↔ 15 < a.toNat % 16 + (15 - b.toNat % 16) + (1 - bin.toNat))
    ∧ ((sub8 a b bin).2.Z = true ↔ (sub8 a b bin).1.toNat = 0)
    ∧ (sub8 a b bin).2.S = (sub8 a b bin).1.getLsbD 7
    ∧ (sub8 a b bin).2.P = parity (sub8 a b bin).1

/-- R142 (S and P by R17: the spec's own choice D21, log 12): the bitwise operations, bit by bit; CY and AC are cleared by all
three, AND included. -/
def Obligations.LogicFunctionClearsCarries : Prop :=
  ∀ (op : LogicOp) (a b : Byte),
    (∀ k : Nat, (logic8 op a b).1.getLsbD k =
      match op with
      | .AND => a.getLsbD k && b.getLsbD k
      | .XOR => a.getLsbD k != b.getLsbD k
      | .OR => a.getLsbD k || b.getLsbD k)
    ∧ (logic8 op a b).2.CY = false ∧ (logic8 op a b).2.AC = false
    ∧ ((logic8 op a b).2.Z = true ↔ (logic8 op a b).1.toNat = 0)
    ∧ (logic8 op a b).2.S = (logic8 op a b).1.getLsbD 7
    ∧ (logic8 op a b).2.P = parity (logic8 op a b).1

/-- R143 (the AC formula: the spec's own choice D13, log 12): Compare8 in numbers, and that it gives exactly the flags of
`Sub8(a, b, 0)`. -/
def Obligations.CompareFunctionAgreesWithSubtract : Prop :=
  ∀ a b : Byte,
    ((compare8 a b).Z = true ↔ a = b)
    ∧ ((compare8 a b).CY = true ↔ a.toNat < b.toNat)
    ∧ (compare8 a b).S = (BitVec.ofNat 8 (a.toNat + 256 - b.toNat)).getLsbD 7
    ∧ (compare8 a b).P = parity (BitVec.ofNat 8 (a.toNat + 256 - b.toNat))
    ∧ ((compare8 a b).AC = true ↔ 15 < a.toNat % 16 + (15 - b.toNat % 16) + 1)
    ∧ compare8 a b = (sub8 a b false).2

/-! ## Memory and the stack -/

/-- R31: a byte access reads or writes `Mem[addr]`, or raises BoundsError(addr) when `addr < 0` or `addr >= MEM_SIZE`. -/
def Obligations.ByteAccessIsBounded : Prop :=
  ∀ (s : State) (a : Int) (v : Byte),
    (0 ≤ a → a < s.config.memSize →
      memRead s a = .ok (s.mem.get a.toNat) ∧ memWrite s a v = .ok { s with mem := s.mem.set a.toNat v })
    ∧ ((a < 0 ∨ s.config.memSize ≤ a) → memRead s a = .error (.boundsError a) ∧ memWrite s a v = .error (.boundsError a))

/-- R32 (low byte at the lower address for data too: the spec's own choice D12, log 14): a two-byte access has its low byte at
`addr` and its high byte at `addr + 1`, both checked, `addr` first, before either is written. -/
def Obligations.TwoByteAccessIsLittleEndian : Prop :=
  ∀ (s : State) (a : Int) (w : Word),
    (0 ≤ a → a + 1 < s.config.memSize →
      (∃ r, memRead16 s a = .ok r ∧ r.toNat = 256 * (s.mem.get (a + 1).toNat).toNat + (s.mem.get a.toNat).toNat)
      ∧ memWrite16 s a w = .ok { s with
          mem := (s.mem.set a.toNat (BitVec.ofNat 8 (w.toNat % 256))).set (a + 1).toNat (BitVec.ofNat 8 (w.toNat / 256)) })
    ∧ ((a < 0 ∨ s.config.memSize ≤ a) →
      memRead16 s a = .error (.boundsError a) ∧ memWrite16 s a w = .error (.boundsError a))
    ∧ (0 ≤ a → a + 1 = s.config.memSize →
      memRead16 s a = .error (.boundsError (a + 1)) ∧ memWrite16 s a w = .error (.boundsError (a + 1)))

/-- R22, R41, and the canonical form (the model's own choice, log 4): in a memory of that form the byte written is the byte
read there and every other byte is as before; two memories of that form that hold the same byte at every address are equal. -/
def Obligations.MemoryReadsWhatWasWritten : Prop :=
  (∀ (m : Memory) (a b : Nat) (v : Byte), m.wf = true → (m.set a v).get a = v ∧ (b ≠ a → (m.set a v).get b = m.get b))
  ∧ ∀ m n : Memory, m.wf = true → n.wf = true → (∀ a : Nat, m.get a = n.get a) → m = n

/-- R40 (high byte at the higher address: the spec's own choice D12, log 14): the two stack primitives, with their checks in
order. -/
def Obligations.PushAndPopPrimitives : Prop :=
  ∀ (s : State) (v : Word),
    ((s.inMemory (addrOf s.sp - 1) = false → push16 s v = .error (.boundsError (addrOf s.sp - 1)))
      ∧ (s.inMemory (addrOf s.sp - 1) = true → addrOf s.sp - 2 < 0 → push16 s v = .error (.boundsError (addrOf s.sp - 2)))
      ∧ (s.inMemory (addrOf s.sp - 1) = true → 0 ≤ addrOf s.sp - 2 →
        push16 s v = .ok { s with
          mem := (s.mem.set (s.sp.toNat - 1) (BitVec.ofNat 8 (v.toNat / 256))).set (s.sp.toNat - 2)
            (BitVec.ofNat 8 (v.toNat % 256))
          sp := BitVec.ofNat 16 (s.sp.toNat - 2) }))
    ∧ ((s.inMemory (addrOf s.sp) = false → pop16 s = .error (.boundsError (addrOf s.sp)))
      ∧ (s.inMemory (addrOf s.sp) = true → s.inMemory (addrOf s.sp + 1) = false →
        pop16 s = .error (.boundsError (addrOf s.sp + 1)))
      ∧ (s.inMemory (addrOf s.sp) = true → s.inMemory (addrOf s.sp + 1) = true → 0xFFFF < s.sp.toNat + 2 →
        pop16 s = .error (.boundsError (addrOf s.sp + 2)))
      ∧ (s.inMemory (addrOf s.sp) = true → s.inMemory (addrOf s.sp + 1) = true → s.sp.toNat + 2 ≤ 0xFFFF →
        pop16 s = .ok (BitVec.ofNat 16 (256 * (s.mem.get (s.sp.toNat + 1)).toNat + (s.mem.get s.sp.toNat).toNat),
          { s with sp := BitVec.ofNat 16 (s.sp.toNat + 2) })))

/-- X6: PUSH of a pair, or of PSW, followed by POP into the same restores it and SP, for every SP whose two stack bytes exist.
-/
def Obligations.PushThenPopRestores : Prop :=
  ∀ (s : State), s.mem.wf = true → 2 ≤ s.sp.toNat → addrOf s.sp ≤ s.config.memSize → s.pc.toNat + 2 ≤ 0xFFFF →
    (∀ p : RegPair, ∃ t u, exec (pushOf p) s = .next t ∧ exec (popOf p) t = .next u
      ∧ u.regs = s.regs ∧ u.sp = s.sp ∧ u.flags = s.flags ∧ u.fault = s.fault)
    ∧ (∃ t u, exec .pushPSW s = .next t ∧ exec .popPSW t = .next u
      ∧ u.regs = s.regs ∧ u.sp = s.sp ∧ u.flags = s.flags ∧ u.fault = s.fault)

/-- X7, R164: RET, run in a state that has the stack pointer and the two stack bytes CALL left, resumes at the instruction
after the CALL with SP as before the CALL; the rest of memory, and everything else, may have changed. -/
def Obligations.CallThenReturnResumes : Prop :=
  ∀ (s t u : State) (target : Word), s.mem.wf = true → 2 ≤ s.sp.toNat → addrOf s.sp ≤ s.config.memSize →
    s.pc.toNat + 3 ≤ 0xFFFF → exec (.call target) s = .next t →
    u.sp = t.sp → u.mem.get t.sp.toNat = t.mem.get t.sp.toNat →
    u.mem.get (t.sp.toNat + 1) = t.mem.get (t.sp.toNat + 1) → u.config = t.config →
    t.pc = target ∧ exec .ret u = .next { u with pc := BitVec.ofNat 16 (s.pc.toNat + 3), sp := s.sp }

/-! ## The step -/

/-- When the bytes at PC decode to an instruction, a step of a running core is exactly that instruction. -/
def Obligations.StepRunsDecodedInstruction : Prop :=
  ∀ (s : State) (i : Instr) (rest : List Byte), Running s →
    decode s.config.undefSet (s.bytesFrom (addrOf s.pc) 3) = .ok (i, rest) → step s = exec i s

/-- A faulted core answers its fault and a halted one is refused (the model's form of "no step exists", R20, R21, D20;
assumption logs 2 and 3); every running core has a next state. -/
def Obligations.StepStopsAfterHaltOrFault : Prop :=
  (∀ (s : State) (k : Fault), s.fault = some k → step s = .fault k)
  ∧ (∀ s : State, s.fault = none → s.halted = true → step s = .refused .stepAfterHalt)
  ∧ ∀ s : State, Running s → ∃ t, step s = .next t

/-- R233: an opcode in UNDEF_SET raises DecodeError(pc, op) after its own fetch and before its operand bytes are fetched, so
whatever lies after it; with the empty UNDEF_SET it is never raised, and no instruction raises it. -/
def Obligations.UndefinedOpcodeRaisesDecodeError : Prop :=
  (∀ s : State, Running s → s.inMemory (addrOf s.pc) = true → opcodeAt s ∈ s.config.undefSet →
    step s = .next { s with fault := some (.decodeError s.pc (opcodeAt s)) })
  ∧ (∀ (s t : State) (a : Word) (op : Byte), Running s → s.config.undefSet = [] → step s = .next t →
    t.fault ≠ some (.decodeError a op))
  ∧ ∀ (i : Instr) (s t : State) (a : Word) (op : Byte), s.fault = none → exec i s = .next t →
    t.fault ≠ some (.decodeError a op)

/-- R45, R234 (nothing else changed by a fault: R232, the spec's own choice D18, log 10): a fetch that leaves memory is a
BoundsError with the first address outside; for the operand bytes, of an opcode that is not in UNDEF_SET. -/
def Obligations.FetchOutsideMemoryFaults : Prop :=
  ∀ s : State, Running s →
    (s.inMemory (addrOf s.pc) = false → step s = .next { s with fault := some (.boundsError s.pc.toNat) })
    ∧ (s.inMemory (addrOf s.pc) = true → opcodeAt s ∉ s.config.undefSet → 2 ≤ opcodeLength (opcodeAt s) →
      s.inMemory (addrOf s.pc + 1) = false → step s = .next { s with fault := some (.boundsError (s.pc.toNat + 1)) })
    ∧ (s.inMemory (addrOf s.pc) = true → opcodeAt s ∉ s.config.undefSet → opcodeLength (opcodeAt s) = 3 →
      s.inMemory (addrOf s.pc + 1) = true → s.inMemory (addrOf s.pc + 2) = false →
      step s = .next { s with fault := some (.boundsError (s.pc.toNat + 2)) })

/-- R236 (the order: the spec's own choice D19, log 10): a step reports the first fault in the order of the rule, and
completes when there is none. -/
def Obligations.FaultPriority : Prop :=
  ∀ s : State, Running s → ∃ t, step s = .next t ∧ t.fault = stepFault s

/-- R232 (precise for BoundsError too: the spec's own choice D18, log 10): when a step raises a fault, the state after it is
the state before it but for the latch. -/
def Obligations.FaultEntryIsPrecise : Prop :=
  ∀ (s t : State) (k : Fault), step s = .next t → t.fault = some k →
    t = { s with fault := some k } ∧ stepResult t = .fault k

/-- R230: a BoundsError reports an integer from -1 to 0x10000 that is no address of the core's memory. -/
def Obligations.BoundsErrorAddressRange : Prop :=
  ∀ (s t : State) (a : Int), wellFormed s = true → step s = .next t → t.fault = some (.boundsError a) →
    -1 ≤ a ∧ a ≤ 0x10000 ∧ (a < 0 ∨ s.config.memSize ≤ a)

/-- Every step keeps the invariant of the model. -/
def Obligations.StepKeepsWellFormedState : Prop :=
  ∀ s t : State, wellFormed s = true → step s = .next t → wellFormed t = true

/-- The invariant holds at reset, and `State.reset` is the reset of the default parameters with the empty image. -/
def Obligations.ResetIsWellFormed : Prop :=
  wellFormed State.reset = true ∧ Running State.reset ∧ resetWith Config.standard [] = .next State.reset

/-- R24, R261 (zero registers, flags and INTE: the spec's own choice D11, log 7; the refusal: D3, log 8): `Reset(IMAGE)`
leaves every piece of state at the value of the table, for every core and every image that fits; a longer image is refused. -/
def Obligations.ResetLoadsImage : Prop :=
  ∀ (c : Config) (image : List Byte), c.wellFormed = true →
    (image.length ≤ c.memSize → ∃ t, resetWith c image = .next t
      ∧ t.regs.A = 0 ∧ t.regs.B = 0 ∧ t.regs.C = 0 ∧ t.regs.D = 0 ∧ t.regs.E = 0 ∧ t.regs.H = 0 ∧ t.regs.L = 0
      ∧ t.flags.Z = false ∧ t.flags.S = false ∧ t.flags.P = false ∧ t.flags.CY = false ∧ t.flags.AC = false
      ∧ t.pc = 0 ∧ t.sp = c.spReset ∧ t.inte = false ∧ t.halted = false ∧ t.fault = none
      ∧ (∀ k : Nat, k < c.memSize → t.mem.get k = image.getD k 0x00)
      ∧ t.portOut = [] ∧ t.config = c ∧ wellFormed t = true)
    ∧ (c.memSize < image.length → resetWith c image = .refused .imageTooLarge)

/-! ## What every instruction changes, and what it leaves -/

/-- R14 (a fault above 0xFFFF: the spec's own choice D7; nothing else changed by a fault: R232, the spec's own choice D18, log
10): the next PC of an instruction that completes; and one whose next PC exceeds 0xFFFF, and which raises no fault before,
raises BoundsError(npc). -/
def Obligations.NextPCSequencing : Prop :=
  ∀ (i : Instr) (s : State), s.fault = none →
    (∀ t, exec i s = .next t → t.fault = none → t.pc.toNat = nextPC i s)
    ∧ (accessFault i s = none → 0xFFFF < nextPC i s →
      exec i s = .next { s with fault := some (.boundsError (nextPC i s)) })

/-- R16: no instruction changes a flag outside its row of the table; the bitwise operations write 0 to CY and AC, and STC
writes 1 to CY. -/
def Obligations.FlagsChangeOnlyWhereTabled : Prop :=
  ∀ (i : Instr) (s t : State), exec i s = .next t →
    (∀ f : FlagName, f ∉ flagsWritten i → flagValue t.flags f = flagValue s.flags f)
    ∧ (s.fault = none → t.fault = none → isBitwise i = true → t.flags.CY = false ∧ t.flags.AC = false)
    ∧ (s.fault = none → t.fault = none → i = .stc → t.flags.CY = true)

/-- R35, column "writes": every byte of memory outside the addresses an instruction writes reads as before; an instruction
that writes none leaves memory as it is. -/
def Obligations.MemoryChangesOnlyWhereTabled : Prop :=
  ∀ (i : Instr) (s t : State), exec i s = .next t →
    (∀ a : Nat, (a : Int) ∉ writeAddrs i s → t.mem.get a = s.mem.get a)
    ∧ (writeAddrs i s = [] → t.mem = s.mem)

/-- R10, R15: no instruction changes a general register that is not a destination of its rule, nor SP unless R15 names it. -/
def Obligations.RegistersChangeOnlyWhereNamed : Prop :=
  ∀ (i : Instr) (s t : State), exec i s = .next t →
    (∀ r : Reg, r ∉ regsWritten i → t.regs.get r = s.regs.get r) ∧ (writesSP i = false → t.sp = s.sp)

/-- R19, R20, R23, R217: INTE is written by EI and DI alone, HALTED by HLT alone, the PortOut trace by OUT alone, and the
parameters by nothing. -/
def Obligations.ControlStateChangesOnlyWhereNamed : Prop :=
  ∀ (i : Instr) (s t : State), exec i s = .next t →
    (i ≠ .ei → i ≠ .di → t.inte = s.inte)
    ∧ (i ≠ .hlt → t.halted = s.halted)
    ∧ ((∀ p, i ≠ .outPort p) → t.portOut = s.portOut)
    ∧ t.config = s.config

/-- R19: EI writes 1 to INTE and DI writes 0; no other instruction writes it, and no instruction and no step depends on it. An
EI or DI that faults leaves it (R232: the spec's own choice D18, log 10). -/
def Obligations.InterruptEnableHasNoEffect : Prop :=
  (∀ (i : Instr) (s t : State) (b : Bool), s.fault = none → exec i s = .next t →
    exec i { s with inte := b } = .next { t with
      inte := if t.fault.isSome then b else if i = .ei then true else if i = .di then false else b })
  ∧ ∀ (s t : State) (b : Bool), step s = .next t →
    ∃ u, step { s with inte := b } = .next u ∧ { u with inte := t.inte } = t

/-! ## Results: data move -/

/-- R80, R84, R86, R87 (XCHG: the spec's own choice D23, log 15): the moves that touch no memory. MOV r1,r2 for the 49 pairs
of registers, MVI r for seven, LXI for BC, DE, HL and SP, and XCHG, each with everything else unchanged. -/
def Obligations.RegisterMoveResult : Prop :=
  ∀ s : State,
    (s.pc.toNat + 1 ≤ 0xFFFF → ∀ d r : Reg,
      exec (movOf d r) s = .next { s with regs := s.regs.set d (s.regs.get r), pc := s.pc + 1 })
    ∧ (s.pc.toNat + 2 ≤ 0xFFFF → ∀ (d : Reg) (d8 : Byte),
      exec (mviOf d d8) s = .next { s with regs := s.regs.set d d8, pc := s.pc + 2 })
    ∧ (s.pc.toNat + 3 ≤ 0xFFFF → ∀ hi lo : Byte,
      exec (.lxiB (joinBytes hi lo)) s = .next { s with regs := { s.regs with B := hi, C := lo }, pc := s.pc + 3 }
      ∧ exec (.lxiD (joinBytes hi lo)) s = .next { s with regs := { s.regs with D := hi, E := lo }, pc := s.pc + 3 }
      ∧ exec (.lxiH (joinBytes hi lo)) s = .next { s with regs := { s.regs with H := hi, L := lo }, pc := s.pc + 3 }
      ∧ exec (.lxiSP (joinBytes hi lo)) s = .next { s with sp := joinBytes hi lo, pc := s.pc + 3 })
    ∧ (s.pc.toNat + 1 ≤ 0xFFFF →
      exec .xchg s = .next { s with
        regs := { s.regs with D := s.regs.H, E := s.regs.L, H := s.regs.D, L := s.regs.E }, pc := s.pc + 1 })

/-- R81 (nothing else changed by a fault: R232, the spec's own choice D18, log 10): MOV r,M loads the byte at HL, for each of
the seven registers; the address is the old HL. -/
def Obligations.MoveFromMemoryResult : Prop :=
  ∀ (s : State) (d : Reg),
    (256 * s.regs.H.toNat + s.regs.L.toNat < s.config.memSize → s.pc.toNat + 1 ≤ 0xFFFF →
      exec (movFromMOf d) s = .next { s with
        regs := s.regs.set d (s.mem.get (256 * s.regs.H.toNat + s.regs.L.toNat)), pc := s.pc + 1 })
    ∧ (s.config.memSize ≤ 256 * s.regs.H.toNat + s.regs.L.toNat →
      exec (movFromMOf d) s = .next { s with
        fault := some (.boundsError ((256 * s.regs.H.toNat + s.regs.L.toNat : Nat) : Int)) })

/-- R82, R85 (nothing else changed by a fault: R232, the spec's own choice D18, log 10): MOV M,r, for each of the seven
registers, and MVI M store one byte at HL. -/
def Obligations.StoreToMemoryResult : Prop :=
  ∀ (s : State) (r : Reg) (d8 : Byte),
    (256 * s.regs.H.toNat + s.regs.L.toNat < s.config.memSize →
      (s.pc.toNat + 1 ≤ 0xFFFF → exec (movToMOf r) s = .next { s with
        mem := s.mem.set (256 * s.regs.H.toNat + s.regs.L.toNat) (s.regs.get r), pc := s.pc + 1 })
      ∧ (s.pc.toNat + 2 ≤ 0xFFFF → exec (.mviM d8) s = .next { s with
        mem := s.mem.set (256 * s.regs.H.toNat + s.regs.L.toNat) d8, pc := s.pc + 2 }))
    ∧ (s.config.memSize ≤ 256 * s.regs.H.toNat + s.regs.L.toNat →
      exec (movToMOf r) s = .next { s with
        fault := some (.boundsError ((256 * s.regs.H.toNat + s.regs.L.toNat : Nat) : Int)) }
      ∧ exec (.mviM d8) s = .next { s with
        fault := some (.boundsError ((256 * s.regs.H.toNat + s.regs.L.toNat : Nat) : Int)) })

/-! ## Results: accumulator operations -/

/-- R100 to R103, R108, R109 (ADI and ACI: the spec's own choice D23, log 15; AC, S and P: D13, D21, log 12): ADD and ADC on
each of the seven registers and M, ADI and ACI. -/
def Obligations.AddResult : Prop :=
  ∀ (src : Source) (s : State) (withCarry : Bool), src.readable s = true → s.pc.toNat + src.length ≤ 0xFFFF →
    ∀ total nibbles : Nat,
      total = s.regs.A.toNat + (src.value s).toNat + (withCarry && s.flags.CY).toNat →
      nibbles = s.regs.A.toNat % 16 + (src.value s).toNat % 16 + (withCarry && s.flags.CY).toNat →
      exec (src.instr (if withCarry then .ADC else .ADD)) s = .next { s with
        regs := { s.regs with A := BitVec.ofNat 8 total }
        flags := { Z := decide (total % 256 = 0), S := decide (128 ≤ total % 256), P := parity (BitVec.ofNat 8 total),
                   CY := decide (256 ≤ total), AC := decide (16 ≤ nibbles) }
        pc := s.pc + BitVec.ofNat 16 src.length }

/-- R104 to R107, R110, R111 (SUI and SBI: the spec's own choice D23, log 15; AC, S and P: D13, D21, log 12): SUB and SBB on
each of the seven registers and M, SUI and SBI. -/
def Obligations.SubtractResult : Prop :=
  ∀ (src : Source) (s : State) (withBorrow : Bool), src.readable s = true → s.pc.toNat + src.length ≤ 0xFFFF →
    ∀ less difference : Nat,
      less = (src.value s).toNat + (withBorrow && s.flags.CY).toNat →
      difference = s.regs.A.toNat + 256 - less →
      exec (src.instr (if withBorrow then .SBB else .SUB)) s = .next { s with
        regs := { s.regs with A := BitVec.ofNat 8 difference }
        flags := { Z := decide (difference % 256 = 0), S := decide (128 ≤ difference % 256)
                   P := parity (BitVec.ofNat 8 difference), CY := decide (s.regs.A.toNat < less)
                   AC := decide ((src.value s).toNat % 16 + (withBorrow && s.flags.CY).toNat ≤ s.regs.A.toNat % 16) }
        pc := s.pc + BitVec.ofNat 16 src.length }

/-- R130 to R135, R138 to R140 (ANI, XRI and ORI: the spec's own choice D23, log 15; S and P: D21, log 12): ANA, XRA and ORA
on each of the seven registers and M, ANI, XRI and ORI. -/
def Obligations.LogicResult : Prop :=
  ∀ (src : Source) (s : State), src.readable s = true → s.pc.toNat + src.length ≤ 0xFFFF →
    ∀ op ∈ [AluOp.ANA, .XRA, .ORA], ∀ res : Byte,
      res = (if op = .ANA then s.regs.A &&& src.value s else if op = .XRA then s.regs.A ^^^ src.value s
        else s.regs.A ||| src.value s) →
      exec (src.instr op) s = .next { s with
        regs := { s.regs with A := res }
        flags := { Z := decide (res = 0), S := decide (128 ≤ res.toNat), P := parity res, CY := false, AC := false }
        pc := s.pc + BitVec.ofNat 16 src.length }

/-- R136, R137, R141 (CPI: the spec's own choice D23, log 15; AC, S and P: D13, D21, log 12): CMP on each of the seven
registers and M, and CPI, write the flags and nothing else but PC. -/
def Obligations.CompareResult : Prop :=
  ∀ (src : Source) (s : State), src.readable s = true → s.pc.toNat + src.length ≤ 0xFFFF →
    exec (src.instr .CMP) s = .next { s with
      flags := { Z := decide (s.regs.A = src.value s)
                 S := decide (128 ≤ (s.regs.A.toNat + 256 - (src.value s).toNat) % 256)
                 P := parity (BitVec.ofNat 8 (s.regs.A.toNat + 256 - (src.value s).toNat))
                 CY := decide (s.regs.A.toNat < (src.value s).toNat)
                 AC := decide ((src.value s).toNat % 16 ≤ s.regs.A.toNat % 16) }
      pc := s.pc + BitVec.ofNat 16 src.length }

/-- R101, R103, R105, R107, R131, R133, R135, R137 (nothing else changed by a fault: R232, the spec's own choice D18, log 10):
an accumulator operation whose M lies outside memory raises BoundsError of HL and changes nothing else. -/
def Obligations.AccumulatorOperationOnMissingM : Prop :=
  ∀ (op : AluOp) (s : State), s.config.memSize ≤ 256 * s.regs.H.toNat + s.regs.L.toNat →
    exec (aluMOf op) s = .next { s with
      fault := some (.boundsError ((256 * s.regs.H.toNat + s.regs.L.toNat : Nat) : Int)) }

/-! ## Results: increment, decrement, 16-bit addition -/

/-- R112, R114 (AC, S and P: the spec's own choices D13, D21, log 12): INR and DCR on each of the seven registers; CY is kept.
-/
def Obligations.IncrementDecrementRegisterResult : Prop :=
  ∀ (s : State) (r : Reg), s.pc.toNat + 1 ≤ 0xFFFF →
    (∀ res : Byte, res = BitVec.ofNat 8 ((s.regs.get r).toNat + 1) →
      exec (inrOf r) s = .next { s with
        regs := s.regs.set r res
        flags := { Z := decide (res = 0), S := decide (128 ≤ res.toNat), P := parity res, CY := s.flags.CY
                   AC := decide ((s.regs.get r).toNat % 16 = 15) }
        pc := s.pc + 1 })
    ∧ (∀ res : Byte, res = BitVec.ofNat 8 ((s.regs.get r).toNat + 255) →
      exec (dcrOf r) s = .next { s with
        regs := s.regs.set r res
        flags := { Z := decide (res = 0), S := decide (128 ≤ res.toNat), P := parity res, CY := s.flags.CY
                   AC := decide ((s.regs.get r).toNat % 16 ≠ 0) }
        pc := s.pc + 1 })

/-- R113, R115 (AC, S and P: the spec's own choices D13, D21, log 12; nothing else changed by a fault: R232, the spec's own
choice D18, log 10): INR M and DCR M read and write the byte at HL; CY is kept. -/
def Obligations.IncrementDecrementMemoryResult : Prop :=
  ∀ (s : State) (a : Nat) (v : Byte), a = 256 * s.regs.H.toNat + s.regs.L.toNat → v = s.mem.get a →
    (a < s.config.memSize → s.pc.toNat + 1 ≤ 0xFFFF →
      (∀ res : Byte, res = BitVec.ofNat 8 (v.toNat + 1) →
        exec .inrM s = .next { s with
          mem := s.mem.set a res
          flags := { Z := decide (res = 0), S := decide (128 ≤ res.toNat), P := parity res, CY := s.flags.CY
                     AC := decide (v.toNat % 16 = 15) }
          pc := s.pc + 1 })
      ∧ (∀ res : Byte, res = BitVec.ofNat 8 (v.toNat + 255) →
        exec .dcrM s = .next { s with
          mem := s.mem.set a res
          flags := { Z := decide (res = 0), S := decide (128 ≤ res.toNat), P := parity res, CY := s.flags.CY
                     AC := decide (v.toNat % 16 ≠ 0) }
          pc := s.pc + 1 }))
    ∧ (s.config.memSize ≤ a →
      exec .inrM s = .next { s with fault := some (.boundsError a) }
      ∧ exec .dcrM s = .next { s with fault := some (.boundsError a) })

/-- R116, R117 (wrapping: the spec's own choice D14, log 15): INX and DCX on BC, DE, HL and SP, modulo 2^16; no flag changes,
and no value of SP makes them fault. -/
def Obligations.PairIncrementDecrementResult : Prop :=
  ∀ (s : State) (p : Pair), s.pc.toNat + 1 ≤ 0xFFFF →
    exec (inxOf p) s = .next { s.setPair p (BitVec.ofNat 16 ((s.pair p).toNat + 1)) with pc := s.pc + 1 }
    ∧ exec (dcxOf p) s = .next { s.setPair p (BitVec.ofNat 16 ((s.pair p).toNat + 65535)) with pc := s.pc + 1 }

/-- R118: DAD of BC, DE, HL and SP: the sum modulo 2^16 to HL, the carry out of bit 15 to CY, nothing else. -/
def Obligations.AddPairToHLResult : Prop :=
  ∀ (s : State) (p : Pair) (total : Nat), s.pc.toNat + 1 ≤ 0xFFFF →
    total = 256 * s.regs.H.toNat + s.regs.L.toNat + (s.pair p).toNat →
    exec (dadOf p) s = .next { s with
      regs := { s.regs with H := BitVec.ofNat 8 (total / 256), L := BitVec.ofNat 8 total }
      flags := { s.flags with CY := decide (65536 ≤ total) }
      pc := s.pc + 1 }

/-! ## Results: rotate -/

/-- R150 to R154 (directions, and no flag but CY: the spec's own choice D23, log 15): the four rotates in numbers; CY is the
bit rotated out and no other flag changes. -/
def Obligations.RotateResult : Prop :=
  ∀ (s : State) (a c : Nat), s.pc.toNat + 1 ≤ 0xFFFF → a = s.regs.A.toNat → c = s.flags.CY.toNat →
    exec .rlc s = .next { s with
      regs := { s.regs with A := BitVec.ofNat 8 (a % 128 * 2 + a / 128) }
      flags := { s.flags with CY := decide (128 ≤ a) }, pc := s.pc + 1 }
    ∧ exec .rrc s = .next { s with
      regs := { s.regs with A := BitVec.ofNat 8 (a % 2 * 128 + a / 2) }
      flags := { s.flags with CY := decide (a % 2 = 1) }, pc := s.pc + 1 }
    ∧ exec .ral s = .next { s with
      regs := { s.regs with A := BitVec.ofNat 8 (a % 128 * 2 + c) }
      flags := { s.flags with CY := decide (128 ≤ a) }, pc := s.pc + 1 }
    ∧ exec .rar s = .next { s with
      regs := { s.regs with A := BitVec.ofNat 8 (c * 128 + a / 2) }
      flags := { s.flags with CY := decide (a % 2 = 1) }, pc := s.pc + 1 }

/-! ## Results: stack and control transfer -/

/-- R160 to R163 (no check of the target: the spec's own choice D7, log 10): JMP and PCHL write PC, unchecked; Jcc, for the
eight conditions, does so when its condition holds and else advances PC by 3. -/
def Obligations.JumpResult : Prop :=
  ∀ (s : State) (a16 : Word),
    exec (.jmp a16) s = .next { s with pc := a16 }
    ∧ exec .pchl s = .next { s with pc := BitVec.ofNat 16 (256 * s.regs.H.toNat + s.regs.L.toNat) }
    ∧ ∀ c : Cond,
      (condHolds c s.flags = true → exec (jccOf c a16) s = .next { s with pc := a16 })
      ∧ (condHolds c s.flags = false → s.pc.toNat + 3 ≤ 0xFFFF → exec (jccOf c a16) s = .next { s with pc := s.pc + 3 })

/-- R165, R166, R169 (byte order: the spec's own choice D12, log 14; a return address above 0xFFFF: D15, log 10; nothing else
changed by a fault: R232, the spec's own choice D18, log 10): CALL, Ccc for the eight conditions, and RST 0 to 7 push the
return address, high byte at SP - 1 and low byte at SP - 2, and jump; an untaken Ccc makes no stack access. -/
def Obligations.CallAndRestartResult : Prop :=
  ∀ (s : State) (a16 : Word),
    (s.inMemory (addrOf s.sp - 1) = true → 2 ≤ s.sp.toNat →
      (∀ ret : Nat, ret = s.pc.toNat + 3 → ret ≤ 0xFFFF → ∀ i : Instr,
        (i = .call a16 ∨ ∃ c, i = cccOf c a16 ∧ condHolds c s.flags = true) →
        exec i s = .next { s with
          mem := (s.mem.set (s.sp.toNat - 1) (BitVec.ofNat 8 (ret / 256))).set (s.sp.toNat - 2) (BitVec.ofNat 8 ret)
          sp := BitVec.ofNat 16 (s.sp.toNat - 2), pc := a16 })
      ∧ (∀ (ret : Nat) (n : BitVec 3), ret = s.pc.toNat + 1 → ret ≤ 0xFFFF →
        exec (rstOf n) s = .next { s with
          mem := (s.mem.set (s.sp.toNat - 1) (BitVec.ofNat 8 (ret / 256))).set (s.sp.toNat - 2) (BitVec.ofNat 8 ret)
          sp := BitVec.ofNat 16 (s.sp.toNat - 2), pc := BitVec.ofNat 16 (8 * n.toNat) }))
    ∧ (∀ c : Cond, condHolds c s.flags = false → s.pc.toNat + 3 ≤ 0xFFFF →
      exec (cccOf c a16) s = .next { s with pc := s.pc + 3 })
    ∧ (0xFFFF < s.pc.toNat + 3 →
      exec (.call a16) s = .next { s with fault := some (.boundsError (s.pc.toNat + 3)) })

/-- R167, R168 (byte order: the spec's own choice D12, log 14): RET, and Rcc for the eight conditions when its condition
holds, pop PC, low byte at SP; an untaken Rcc advances PC by 1 and makes no stack access. -/
def Obligations.ReturnResult : Prop :=
  ∀ s : State,
    (addrOf s.sp + 1 < s.config.memSize → s.sp.toNat + 2 ≤ 0xFFFF → ∀ i : Instr,
      (i = .ret ∨ ∃ c, i = rccOf c ∧ condHolds c s.flags = true) →
      exec i s = .next { s with
        pc := BitVec.ofNat 16 (256 * (s.mem.get (s.sp.toNat + 1)).toNat + (s.mem.get s.sp.toNat).toNat)
        sp := s.sp + 2 })
    ∧ (∀ c : Cond, condHolds c s.flags = false → s.pc.toNat + 1 ≤ 0xFFFF →
      exec (rccOf c) s = .next { s with pc := s.pc + 1 })

/-- R170, R171 (byte order and flags byte: the spec's own choices D12, log 14, and D9, log 13): PUSH of BC, DE, HL and PSW:
the first-named register (A for PSW) at SP - 1, the second (the flags byte) at SP - 2, SP down by 2. -/
def Obligations.PushResult : Prop :=
  ∀ s : State, s.inMemory (addrOf s.sp - 1) = true → 2 ≤ s.sp.toNat → s.pc.toNat + 1 ≤ 0xFFFF →
    ∀ (i : Instr) (hi lo : Byte),
      (i, hi, lo) ∈ [(Instr.pushB, s.regs.B, s.regs.C), (.pushD, s.regs.D, s.regs.E), (.pushH, s.regs.H, s.regs.L),
        (.pushPSW, s.regs.A, BitVec.ofNat 8 (128 * s.flags.S.toNat + 64 * s.flags.Z.toNat + 16 * s.flags.AC.toNat
          + 4 * s.flags.P.toNat + 2 + s.flags.CY.toNat))] →
      exec i s = .next { s with
        mem := (s.mem.set (s.sp.toNat - 1) hi).set (s.sp.toNat - 2) lo
        sp := BitVec.ofNat 16 (s.sp.toNat - 2), pc := s.pc + 1 }

/-- R172, R173 (byte order and flags byte: the spec's own choices D12, log 14, and D9, log 13): POP into BC, DE, HL: the
second-named register from SP, the first from SP + 1; POP PSW: A from SP + 1, the five flags from bits 6, 7, 2, 0 and 4 of the
byte at SP; SP up by 2. -/
def Obligations.PopResult : Prop :=
  ∀ (s : State) (lo hi : Byte), addrOf s.sp + 1 < s.config.memSize → s.sp.toNat + 2 ≤ 0xFFFF → s.pc.toNat + 1 ≤ 0xFFFF →
    lo = s.mem.get s.sp.toNat → hi = s.mem.get (s.sp.toNat + 1) →
    exec .popB s = .next { s with regs := { s.regs with B := hi, C := lo }, sp := s.sp + 2, pc := s.pc + 1 }
    ∧ exec .popD s = .next { s with regs := { s.regs with D := hi, E := lo }, sp := s.sp + 2, pc := s.pc + 1 }
    ∧ exec .popH s = .next { s with regs := { s.regs with H := hi, L := lo }, sp := s.sp + 2, pc := s.pc + 1 }
    ∧ exec .popPSW s = .next { s with
      regs := { s.regs with A := hi }
      flags := { Z := lo.getLsbD 6, S := lo.getLsbD 7, P := lo.getLsbD 2, CY := lo.getLsbD 0, AC := lo.getLsbD 4 }
      sp := s.sp + 2, pc := s.pc + 1 }

/-- R174, R175 (both instructions and the byte order: the spec's own choices D23, log 15, and D12, log 14; SPHL unchecked: D8,
log 10; nothing else changed by a fault: R232, the spec's own choice D18, log 10): XTHL exchanges HL with the two bytes at SP,
SP unchanged, and faults with nothing written when either lies outside memory, SP reported first; SPHL loads SP from HL,
unchecked. -/
def Obligations.StackPointerMoveResult : Prop :=
  ∀ s : State,
    (s.pc.toNat + 1 ≤ 0xFFFF → addrOf s.sp + 1 < s.config.memSize →
      exec .xthl s = .next { s with
        mem := (s.mem.set s.sp.toNat s.regs.L).set (s.sp.toNat + 1) s.regs.H
        regs := { s.regs with L := s.mem.get s.sp.toNat, H := s.mem.get (s.sp.toNat + 1) }, pc := s.pc + 1 })
    ∧ (s.config.memSize ≤ s.sp.toNat → exec .xthl s = .next { s with fault := some (.boundsError s.sp.toNat) })
    ∧ (addrOf s.sp + 1 = s.config.memSize → exec .xthl s = .next { s with fault := some (.boundsError (s.sp.toNat + 1)) })
    ∧ (s.pc.toNat + 1 ≤ 0xFFFF →
      exec .sphl s = .next { s with sp := BitVec.ofNat 16 (256 * s.regs.H.toNat + s.regs.L.toNat), pc := s.pc + 1 })

/-! ## Results: flag and mode -/

/-- R190 to R193, R195 to R197 (STC, CMC and CMA: the spec's own choice D23, log 15): NOP, STC, CMC, CMA, EI, DI; and HLT,
which sets HALTED and leaves PC, at every PC. -/
def Obligations.FlagAndModeResult : Prop :=
  ∀ s : State,
    (s.pc.toNat + 1 ≤ 0xFFFF →
      exec .nop s = .next { s with pc := s.pc + 1 }
      ∧ exec .stc s = .next { s with flags := { s.flags with CY := true }, pc := s.pc + 1 }
      ∧ exec .cmc s = .next { s with flags := { s.flags with CY := !s.flags.CY }, pc := s.pc + 1 }
      ∧ exec .cma s = .next { s with regs := { s.regs with A := BitVec.ofNat 8 (255 - s.regs.A.toNat) }, pc := s.pc + 1 }
      ∧ exec .ei s = .next { s with inte := true, pc := s.pc + 1 }
      ∧ exec .di s = .next { s with inte := false, pc := s.pc + 1 })
    ∧ exec .hlt s = .next { s with halted := true }

/-- R194 (the algorithm: the spec's own choice D16, log 12): DAA in numbers. -/
def Obligations.DecimalAdjustResult : Prop :=
  ∀ (s : State) (lo hi low corr total : Nat), s.pc.toNat + 1 ≤ 0xFFFF →
    lo = s.regs.A.toNat % 16 → hi = s.regs.A.toNat / 16 →
    low = (if s.flags.AC = true ∨ 9 < lo then 6 else 0) →
    corr = (if s.flags.CY = true ∨ 9 < hi ∨ (9 ≤ hi ∧ 9 < lo) then 96 else 0) →
    total = (s.regs.A.toNat + low + corr) % 256 →
    exec .daa s = .next { s with
      regs := { s.regs with A := BitVec.ofNat 8 total }
      flags := { Z := decide (total = 0), S := decide (128 ≤ total), P := parity (BitVec.ofNat 8 total)
                 CY := decide (s.flags.CY = true ∨ corr = 96), AC := decide (16 ≤ lo + low) }
      pc := s.pc + 1 }

/-! ## Results: memory transfer and ports -/

/-- R210 to R213 (directions: the spec's own choice D23, log 15): STAX and LDAX through BC and DE, STA and LDA, one byte each.
-/
def Obligations.AccumulatorTransferResult : Prop :=
  ∀ (s : State) (a : Nat) (a16 : Word),
    (a < s.config.memSize → s.pc.toNat + 1 ≤ 0xFFFF →
      (a = 256 * s.regs.B.toNat + s.regs.C.toNat →
        exec .staxB s = .next { s with mem := s.mem.set a s.regs.A, pc := s.pc + 1 }
        ∧ exec .ldaxB s = .next { s with regs := { s.regs with A := s.mem.get a }, pc := s.pc + 1 })
      ∧ (a = 256 * s.regs.D.toNat + s.regs.E.toNat →
        exec .staxD s = .next { s with mem := s.mem.set a s.regs.A, pc := s.pc + 1 }
        ∧ exec .ldaxD s = .next { s with regs := { s.regs with A := s.mem.get a }, pc := s.pc + 1 }))
    ∧ (a16.toNat < s.config.memSize → s.pc.toNat + 3 ≤ 0xFFFF →
      exec (.sta a16) s = .next { s with mem := s.mem.set a16.toNat s.regs.A, pc := s.pc + 3 }
      ∧ exec (.lda a16) s = .next { s with regs := { s.regs with A := s.mem.get a16.toNat }, pc := s.pc + 3 })

/-- R214, R215 (directions and byte order: the spec's own choices D23, log 15, and D12, log 14; nothing else changed by a
fault: R232, the spec's own choice D18, log 10): SHLD and LHLD, L at the lower address; when either byte lies outside memory
they fault with nothing stored, `a16` reported first, and do not wrap. -/
def Obligations.HLTransferResult : Prop :=
  ∀ (s : State) (a16 : Word),
    (a16.toNat + 1 < s.config.memSize → s.pc.toNat + 3 ≤ 0xFFFF →
      exec (.shld a16) s = .next { s with
        mem := (s.mem.set a16.toNat s.regs.L).set (a16.toNat + 1) s.regs.H, pc := s.pc + 3 }
      ∧ exec (.lhld a16) s = .next { s with
        regs := { s.regs with L := s.mem.get a16.toNat, H := s.mem.get (a16.toNat + 1) }, pc := s.pc + 3 })
    ∧ (s.config.memSize ≤ a16.toNat →
      exec (.shld a16) s = .next { s with fault := some (.boundsError a16.toNat) }
      ∧ exec (.lhld a16) s = .next { s with fault := some (.boundsError a16.toNat) })
    ∧ (a16.toNat + 1 = s.config.memSize →
      exec (.shld a16) s = .next { s with fault := some (.boundsError (a16.toNat + 1)) }
      ∧ exec (.lhld a16) s = .next { s with fault := some (.boundsError (a16.toNat + 1)) })

/-- R216, R217 (PortIn as a table of the configuration, the trace in State: D5, logs 5 and 6): IN writes to A what PortIn
answers and leaves A when it answers none; OUT appends the event (port, A) to the trace. -/
def Obligations.PortResult : Prop :=
  ∀ (s : State) (p8 : Byte), s.pc.toNat + 2 ≤ 0xFFFF →
    (∀ v, portInValue s.config p8 = some v →
      exec (.inPort p8) s = .next { s with regs := { s.regs with A := v }, pc := s.pc + 2 })
    ∧ (portInValue s.config p8 = none → exec (.inPort p8) s = .next { s with pc := s.pc + 2 })
    ∧ exec (.outPort p8) s = .next { s with portOut := s.portOut ++ [(p8, s.regs.A)], pc := s.pc + 2 }
end

