-- ==== Sys2Proof/Laws/Decode.lean ====
section
/-! SUPPORT. The two bytes of a 16-bit value, and what `decode` answers for each length of opcode. -/
namespace Sys2Proof

theorem toNat_hiByte (w : Word) : (hiByte w).toNat = w.toNat / 256 := by
  have h := w.isLt
  simp only [hiByte, BitVec.extractLsb'_toNat, Nat.shiftRight_eq_div_pow]
  omega

theorem toNat_loByte (w : Word) : (loByte w).toNat = w.toNat % 256 := by
  simp [loByte, BitVec.extractLsb'_toNat]

theorem toNat_joinBytes (hi lo : Byte) : (joinBytes hi lo).toNat = 256 * hi.toNat + lo.toNat := by
  have hlo := lo.isLt
  simp only [joinBytes, BitVec.toNat_append, Nat.shiftLeft_eq, Nat.mul_comm hi.toNat]
  exact (Nat.two_pow_add_eq_or_of_lt hlo hi.toNat).symm

@[simp] theorem hiByte_joinBytes (hi lo : Byte) : hiByte (joinBytes hi lo) = hi := by
  have hlo := lo.isLt
  apply BitVec.eq_of_toNat_eq
  rw [toNat_hiByte, toNat_joinBytes]
  omega

@[simp] theorem loByte_joinBytes (hi lo : Byte) : loByte (joinBytes hi lo) = lo := by
  have hlo := lo.isLt
  apply BitVec.eq_of_toNat_eq
  rw [toNat_loByte, toNat_joinBytes]
  omega

@[simp] theorem joinBytes_hi_lo (w : Word) : joinBytes (hiByte w) (loByte w) = w := by
  apply BitVec.eq_of_toNat_eq
  rw [toNat_joinBytes, toNat_hiByte, toNat_loByte]
  omega

theorem decode_length_one {undef : List Byte} {op : Byte} (rest : List Byte) (hu : op ∉ undef)
    (hl : opcodeLength op = 1) : decode undef (op :: rest) = .ok (decodeOpcode op 0 0, rest) := by
  simp [decode, hu, hl]

theorem decode_length_two {undef : List Byte} {op : Byte} (b2 : Byte) (rest : List Byte) (hu : op ∉ undef)
    (hl : opcodeLength op = 2) : decode undef (op :: b2 :: rest) = .ok (decodeOpcode op b2 0, rest) := by
  simp [decode, hu, hl]

theorem decode_length_three {undef : List Byte} {op : Byte} (b2 b3 : Byte) (rest : List Byte) (hu : op ∉ undef)
    (hl : opcodeLength op = 3) : decode undef (op :: b2 :: b3 :: rest) = .ok (decodeOpcode op b2 b3, rest) := by
  simp [decode, hu, hl]

theorem decode_undefined {undef : List Byte} {op : Byte} (rest : List Byte) (hu : op ∈ undef) :
    decode undef (op :: rest) = .error (.undefinedOpcode op) := by
  simp [decode, hu]

end Sys2Proof
end

