-- ==== Sys2Proof/Laws/Dispatch.lean ====
section
/-! SUPPORT. What `exec` does with the instruction of an operand: one lemma per family of constructors, so that no proof splits
the 244 arms again. The instructions outside these families are their arms, by `rfl`. -/
namespace Sys2Proof.Machine

theorem exec_movOf (d r : Reg) (s : State) : exec (movOf d r) s = moveOperand (.reg d) (.reg r) s := by
  cases d <;> cases r <;> rfl

theorem exec_movFromMOf (d : Reg) (s : State) : exec (movFromMOf d) s = moveOperand (.reg d) .M s := by
  cases d <;> rfl

theorem exec_movToMOf (r : Reg) (s : State) : exec (movToMOf r) s = moveOperand .M (.reg r) s := by
  cases r <;> rfl

theorem exec_mviOf (r : Reg) (d8 : Byte) (s : State) : exec (mviOf r d8) s = moveImmediate (.reg r) d8 s := by
  cases r <;> rfl

theorem exec_lxiOf (p : Pair) (d16 : Word) (s : State) : exec (lxiOf p d16) s = loadPair p d16 s := by
  rcases p with (_ | _ | _) | _ <;> rfl

theorem exec_aluRegOf (op : AluOp) (r : Reg) (s : State) : exec (aluRegOf op r) s = aluOperand op (.reg r) s := by
  cases op <;> cases r <;> rfl

theorem exec_aluMOf (op : AluOp) (s : State) : exec (aluMOf op) s = aluOperand op .M s := by
  cases op <;> rfl

theorem exec_aluImmOf (op : AluOp) (d8 : Byte) (s : State) : exec (aluImmOf op d8) s = aluImmediate op d8 s := by
  cases op <;> rfl

theorem exec_inrOf (r : Reg) (s : State) : exec (inrOf r) s = incrementOperand (.reg r) s := by
  cases r <;> rfl

theorem exec_dcrOf (r : Reg) (s : State) : exec (dcrOf r) s = decrementOperand (.reg r) s := by
  cases r <;> rfl

theorem exec_inxOf (p : Pair) (s : State) : exec (inxOf p) s = incrementPair p s := by
  rcases p with (_ | _ | _) | _ <;> rfl

theorem exec_dcxOf (p : Pair) (s : State) : exec (dcxOf p) s = decrementPair p s := by
  rcases p with (_ | _ | _) | _ <;> rfl

theorem exec_dadOf (p : Pair) (s : State) : exec (dadOf p) s = addPairToHL p s := by
  rcases p with (_ | _ | _) | _ <;> rfl

theorem exec_jccOf (c : Cond) (a16 : Word) (s : State) : exec (jccOf c a16) s = jumpIf c a16 s := by
  cases c <;> rfl

theorem exec_cccOf (c : Cond) (a16 : Word) (s : State) : exec (cccOf c a16) s = callIf c a16 s := by
  cases c <;> rfl

theorem exec_rccOf (c : Cond) (s : State) : exec (rccOf c) s = returnIf c s := by
  cases c <;> rfl

theorem exec_rstOf (n : BitVec 3) (s : State) : exec (rstOf n) s = restart n s := by
  revert n
  have h : ∀ k : Fin 8, exec (rstOf (BitVec.ofFin k)) s = restart (BitVec.ofFin k) s := by
    intro k
    fin_cases k <;> rfl
  exact fun n => h n.toFin

theorem exec_pushOf (p : RegPair) (s : State) : exec (pushOf p) s = pushWord (s.regPair p) s := by
  cases p <;> rfl

theorem exec_popOf (p : RegPair) (s : State) : exec (popOf p) s = popPair p s := by
  cases p <;> rfl

end Sys2Proof.Machine
end

