-- ==== Sys2Proof/Laws/Families.lean ====
section
/-! SUPPORT. Every instruction is one of a family, with its operands: 53 cases in place of 244, for statements about all of them. -/
namespace Sys2Proof

/-- An instruction by its family. -/
inductive Family : Instr → Prop where
  | mov (d r : Reg) : Family (movOf d r)
  | movFromM (d : Reg) : Family (movFromMOf d)
  | movToM (r : Reg) : Family (movToMOf r)
  | mvi (r : Reg) (d8 : Byte) : Family (mviOf r d8)
  | mviM (d8 : Byte) : Family (.mviM d8)
  | lxi (p : Pair) (d16 : Word) : Family (lxiOf p d16)
  | aluReg (op : AluOp) (r : Reg) : Family (aluRegOf op r)
  | aluM (op : AluOp) : Family (aluMOf op)
  | aluImm (op : AluOp) (d8 : Byte) : Family (aluImmOf op d8)
  | inr (r : Reg) : Family (inrOf r)
  | dcr (r : Reg) : Family (dcrOf r)
  | inx (p : Pair) : Family (inxOf p)
  | dcx (p : Pair) : Family (dcxOf p)
  | dad (p : Pair) : Family (dadOf p)
  | jcc (c : Cond) (a16 : Word) : Family (jccOf c a16)
  | ccc (c : Cond) (a16 : Word) : Family (cccOf c a16)
  | rcc (c : Cond) : Family (rccOf c)
  | rst (n : BitVec 3) : Family (rstOf n)
  | push (p : RegPair) : Family (pushOf p)
  | pop (p : RegPair) : Family (popOf p)
  | nop : Family .nop
  | staxB : Family .staxB
  | rlc : Family .rlc
  | ldaxB : Family .ldaxB
  | rrc : Family .rrc
  | staxD : Family .staxD
  | ral : Family .ral
  | ldaxD : Family .ldaxD
  | rar : Family .rar
  | shld (a16 : Word) : Family (.shld a16)
  | daa : Family .daa
  | lhld (a16 : Word) : Family (.lhld a16)
  | cma : Family .cma
  | sta (a16 : Word) : Family (.sta a16)
  | inrM : Family .inrM
  | dcrM : Family .dcrM
  | stc : Family .stc
  | lda (a16 : Word) : Family (.lda a16)
  | cmc : Family .cmc
  | hlt : Family .hlt
  | jmp (a16 : Word) : Family (.jmp a16)
  | ret : Family .ret
  | call (a16 : Word) : Family (.call a16)
  | outPort (p8 : Byte) : Family (.outPort p8)
  | inPort (p8 : Byte) : Family (.inPort p8)
  | xthl : Family .xthl
  | pchl : Family .pchl
  | xchg : Family .xchg
  | popPSW : Family .popPSW
  | di : Family .di
  | pushPSW : Family .pushPSW
  | sphl : Family .sphl
  | ei : Family .ei

/-- Every instruction is of a family. -/
theorem family_of (i : Instr) : Family i :=
  match i with
  | .nop => .nop
  | .lxiB d16 => .lxi (.rp .BC) d16
  | .staxB => .staxB
  | .inxB => .inx (.rp .BC)
  | .inrB => .inr .B
  | .dcrB => .dcr .B
  | .mviB d8 => .mvi .B d8
  | .rlc => .rlc
  | .dadB => .dad (.rp .BC)
  | .ldaxB => .ldaxB
  | .dcxB => .dcx (.rp .BC)
  | .inrC => .inr .C
  | .dcrC => .dcr .C
  | .mviC d8 => .mvi .C d8
  | .rrc => .rrc
  | .lxiD d16 => .lxi (.rp .DE) d16
  | .staxD => .staxD
  | .inxD => .inx (.rp .DE)
  | .inrD => .inr .D
  | .dcrD => .dcr .D
  | .mviD d8 => .mvi .D d8
  | .ral => .ral
  | .dadD => .dad (.rp .DE)
  | .ldaxD => .ldaxD
  | .dcxD => .dcx (.rp .DE)
  | .inrE => .inr .E
  | .dcrE => .dcr .E
  | .mviE d8 => .mvi .E d8
  | .rar => .rar
  | .lxiH d16 => .lxi (.rp .HL) d16
  | .shld a16 => .shld a16
  | .inxH => .inx (.rp .HL)
  | .inrH => .inr .H
  | .dcrH => .dcr .H
  | .mviH d8 => .mvi .H d8
  | .daa => .daa
  | .dadH => .dad (.rp .HL)
  | .lhld a16 => .lhld a16
  | .dcxH => .dcx (.rp .HL)
  | .inrL => .inr .L
  | .dcrL => .dcr .L
  | .mviL d8 => .mvi .L d8
  | .cma => .cma
  | .lxiSP d16 => .lxi .SP d16
  | .sta a16 => .sta a16
  | .inxSP => .inx .SP
  | .inrM => .inrM
  | .dcrM => .dcrM
  | .mviM d8 => .mviM d8
  | .stc => .stc
  | .dadSP => .dad .SP
  | .lda a16 => .lda a16
  | .dcxSP => .dcx .SP
  | .inrA => .inr .A
  | .dcrA => .dcr .A
  | .mviA d8 => .mvi .A d8
  | .cmc => .cmc
  | .movBB => .mov .B .B
  | .movBC => .mov .B .C
  | .movBD => .mov .B .D
  | .movBE => .mov .B .E
  | .movBH => .mov .B .H
  | .movBL => .mov .B .L
  | .movBM => .movFromM .B
  | .movBA => .mov .B .A
  | .movCB => .mov .C .B
  | .movCC => .mov .C .C
  | .movCD => .mov .C .D
  | .movCE => .mov .C .E
  | .movCH => .mov .C .H
  | .movCL => .mov .C .L
  | .movCM => .movFromM .C
  | .movCA => .mov .C .A
  | .movDB => .mov .D .B
  | .movDC => .mov .D .C
  | .movDD => .mov .D .D
  | .movDE => .mov .D .E
  | .movDH => .mov .D .H
  | .movDL => .mov .D .L
  | .movDM => .movFromM .D
  | .movDA => .mov .D .A
  | .movEB => .mov .E .B
  | .movEC => .mov .E .C
  | .movED => .mov .E .D
  | .movEE => .mov .E .E
  | .movEH => .mov .E .H
  | .movEL => .mov .E .L
  | .movEM => .movFromM .E
  | .movEA => .mov .E .A
  | .movHB => .mov .H .B
  | .movHC => .mov .H .C
  | .movHD => .mov .H .D
  | .movHE => .mov .H .E
  | .movHH => .mov .H .H
  | .movHL => .mov .H .L
  | .movHM => .movFromM .H
  | .movHA => .mov .H .A
  | .movLB => .mov .L .B
  | .movLC => .mov .L .C
  | .movLD => .mov .L .D
  | .movLE => .mov .L .E
  | .movLH => .mov .L .H
  | .movLL => .mov .L .L
  | .movLM => .movFromM .L
  | .movLA => .mov .L .A
  | .movMB => .movToM .B
  | .movMC => .movToM .C
  | .movMD => .movToM .D
  | .movME => .movToM .E
  | .movMH => .movToM .H
  | .movML => .movToM .L
  | .hlt => .hlt
  | .movMA => .movToM .A
  | .movAB => .mov .A .B
  | .movAC => .mov .A .C
  | .movAD => .mov .A .D
  | .movAE => .mov .A .E
  | .movAH => .mov .A .H
  | .movAL => .mov .A .L
  | .movAM => .movFromM .A
  | .movAA => .mov .A .A
  | .addB => .aluReg .ADD .B
  | .addC => .aluReg .ADD .C
  | .addD => .aluReg .ADD .D
  | .addE => .aluReg .ADD .E
  | .addH => .aluReg .ADD .H
  | .addL => .aluReg .ADD .L
  | .addM => .aluM .ADD
  | .addA => .aluReg .ADD .A
  | .adcB => .aluReg .ADC .B
  | .adcC => .aluReg .ADC .C
  | .adcD => .aluReg .ADC .D
  | .adcE => .aluReg .ADC .E
  | .adcH => .aluReg .ADC .H
  | .adcL => .aluReg .ADC .L
  | .adcM => .aluM .ADC
  | .adcA => .aluReg .ADC .A
  | .subB => .aluReg .SUB .B
  | .subC => .aluReg .SUB .C
  | .subD => .aluReg .SUB .D
  | .subE => .aluReg .SUB .E
  | .subH => .aluReg .SUB .H
  | .subL => .aluReg .SUB .L
  | .subM => .aluM .SUB
  | .subA => .aluReg .SUB .A
  | .sbbB => .aluReg .SBB .B
  | .sbbC => .aluReg .SBB .C
  | .sbbD => .aluReg .SBB .D
  | .sbbE => .aluReg .SBB .E
  | .sbbH => .aluReg .SBB .H
  | .sbbL => .aluReg .SBB .L
  | .sbbM => .aluM .SBB
  | .sbbA => .aluReg .SBB .A
  | .anaB => .aluReg .ANA .B
  | .anaC => .aluReg .ANA .C
  | .anaD => .aluReg .ANA .D
  | .anaE => .aluReg .ANA .E
  | .anaH => .aluReg .ANA .H
  | .anaL => .aluReg .ANA .L
  | .anaM => .aluM .ANA
  | .anaA => .aluReg .ANA .A
  | .xraB => .aluReg .XRA .B
  | .xraC => .aluReg .XRA .C
  | .xraD => .aluReg .XRA .D
  | .xraE => .aluReg .XRA .E
  | .xraH => .aluReg .XRA .H
  | .xraL => .aluReg .XRA .L
  | .xraM => .aluM .XRA
  | .xraA => .aluReg .XRA .A
  | .oraB => .aluReg .ORA .B
  | .oraC => .aluReg .ORA .C
  | .oraD => .aluReg .ORA .D
  | .oraE => .aluReg .ORA .E
  | .oraH => .aluReg .ORA .H
  | .oraL => .aluReg .ORA .L
  | .oraM => .aluM .ORA
  | .oraA => .aluReg .ORA .A
  | .cmpB => .aluReg .CMP .B
  | .cmpC => .aluReg .CMP .C
  | .cmpD => .aluReg .CMP .D
  | .cmpE => .aluReg .CMP .E
  | .cmpH => .aluReg .CMP .H
  | .cmpL => .aluReg .CMP .L
  | .cmpM => .aluM .CMP
  | .cmpA => .aluReg .CMP .A
  | .rnz => .rcc .NZ
  | .popB => .pop .BC
  | .jnz a16 => .jcc .NZ a16
  | .jmp a16 => .jmp a16
  | .cnz a16 => .ccc .NZ a16
  | .pushB => .push .BC
  | .adi d8 => .aluImm .ADD d8
  | .rst0 => .rst 0
  | .rz => .rcc .Z
  | .ret => .ret
  | .jz a16 => .jcc .Z a16
  | .cz a16 => .ccc .Z a16
  | .call a16 => .call a16
  | .aci d8 => .aluImm .ADC d8
  | .rst1 => .rst 1
  | .rnc => .rcc .NC
  | .popD => .pop .DE
  | .jnc a16 => .jcc .NC a16
  | .outPort p8 => .outPort p8
  | .cnc a16 => .ccc .NC a16
  | .pushD => .push .DE
  | .sui d8 => .aluImm .SUB d8
  | .rst2 => .rst 2
  | .rc => .rcc .C
  | .jc a16 => .jcc .C a16
  | .inPort p8 => .inPort p8
  | .cc a16 => .ccc .C a16
  | .sbi d8 => .aluImm .SBB d8
  | .rst3 => .rst 3
  | .rpo => .rcc .PO
  | .popH => .pop .HL
  | .jpo a16 => .jcc .PO a16
  | .xthl => .xthl
  | .cpo a16 => .ccc .PO a16
  | .pushH => .push .HL
  | .ani d8 => .aluImm .ANA d8
  | .rst4 => .rst 4
  | .rpe => .rcc .PE
  | .pchl => .pchl
  | .jpe a16 => .jcc .PE a16
  | .xchg => .xchg
  | .cpe a16 => .ccc .PE a16
  | .xri d8 => .aluImm .XRA d8
  | .rst5 => .rst 5
  | .rp => .rcc .P
  | .popPSW => .popPSW
  | .jp a16 => .jcc .P a16
  | .di => .di
  | .cp a16 => .ccc .P a16
  | .pushPSW => .pushPSW
  | .ori d8 => .aluImm .ORA d8
  | .rst6 => .rst 6
  | .rm => .rcc .M
  | .sphl => .sphl
  | .jm a16 => .jcc .M a16
  | .ei => .ei
  | .cm a16 => .ccc .M a16
  | .cpi d8 => .aluImm .CMP d8
  | .rst7 => .rst 7

end Sys2Proof
end

