-- ==== Sys2Proof/Laws/Memory.lean ====
section
/-! SUPPORT. Every memory operation keeps the canonical form and the bound on the listed addresses. -/
namespace Sys2Proof.Machine

theorem Memory.wfFrom_mono {lo lo' : Nat} {m : Memory} (h : Memory.wfFrom lo m = true) (hle : lo' ≤ lo) :
    Memory.wfFrom lo' m = true := by
  cases m with
  | nil => rfl
  | cons c rest =>
    simp only [Memory.wfFrom, Bool.and_eq_true, decide_eq_true_eq] at h ⊢
    exact ⟨⟨by omega, h.1.2⟩, h.2⟩

theorem Memory.wfFrom_set {lo a : Nat} {m : Memory} (v : Byte) (h : Memory.wfFrom lo m = true) (ha : lo ≤ a) :
    Memory.wfFrom lo (m.set a v) = true := by
  induction m generalizing lo with
  | nil =>
    unfold Memory.set
    split
    · rfl
    · rename_i hv
      simp [Memory.wfFrom, ha, hv]
  | cons c rest ih =>
    obtain ⟨k, w⟩ := c
    simp only [Memory.wfFrom, Bool.and_eq_true, decide_eq_true_eq] at h
    obtain ⟨⟨hk, hw⟩, hrest⟩ := h
    unfold Memory.set
    split
    · split
      · simp [Memory.wfFrom, hk, hw, hrest]
      · rename_i hlt hv
        simp [Memory.wfFrom, ha, hv, hw, hrest, Nat.succ_le_of_lt hlt]
    · split
      · rename_i hak
        subst hak
        split
        · exact Memory.wfFrom_mono hrest (by omega)
        · rename_i hv
          simp [Memory.wfFrom, ha, hv, hrest]
      · simp [Memory.wfFrom, hk, hw, ih hrest (by omega)]

/-- Writing a byte keeps the canonical form. -/
theorem Memory.set_wf {m : Memory} (a : Nat) (v : Byte) (h : m.wf = true) : (m.set a v).wf = true :=
  Memory.wfFrom_set v h (Nat.zero_le a)

/-- Loading a byte string keeps the canonical form. -/
theorem Memory.load_wf {m : Memory} (a : Nat) (bytes : List Byte) (h : m.wf = true) : (m.load a bytes).wf = true := by
  induction bytes generalizing m a with
  | nil => exact h
  | cons b rest ih => exact ih (a + 1) (Memory.set_wf a b h)

/-- A cell listed after a write is the one written or was listed before. -/
theorem Memory.mem_set {m : Memory} {a : Nat} {v : Byte} {cell : Host.Cell} (h : cell ∈ m.set a v) :
    cell = (a, v) ∨ cell ∈ m := by
  induction m with
  | nil =>
    unfold Memory.set at h
    split at h <;> simp_all
  | cons c rest ih =>
    obtain ⟨k, w⟩ := c
    unfold Memory.set at h
    split at h
    · split at h
      · exact .inr h
      · simpa using h
    · split at h
      · split at h
        · exact .inr (List.mem_cons_of_mem _ h)
        · rcases List.mem_cons.mp h with h | h
          · exact .inl h
          · exact .inr (List.mem_cons_of_mem _ h)
      · rcases List.mem_cons.mp h with h | h
        · exact .inr (by simp [h])
        · exact (ih h).imp_right (List.mem_cons_of_mem _)

/-- Writing a byte of memory lists no address outside memory. -/
theorem Memory.set_within {m : Memory} {size a : Nat} (v : Byte) (h : m.within size = true) (ha : a < size) :
    (m.set a v).within size = true := by
  simp only [Memory.within, List.all_eq_true, decide_eq_true_eq] at h ⊢
  intro cell hcell
  rcases Memory.mem_set hcell with rfl | hold
  · exact ha
  · exact h cell hold

/-- Loading a byte string that fits lists no address outside memory. -/
theorem Memory.load_within {m : Memory} {size a : Nat} (bytes : List Byte) (h : m.within size = true)
    (hfit : a + bytes.length ≤ size) : (m.load a bytes).within size = true := by
  induction bytes generalizing m a with
  | nil => exact h
  | cons b rest ih =>
    simp only [List.length_cons] at hfit
    exact ih (Memory.set_within b h (by omega)) (by omega)

theorem State.reset_mem_wf : State.reset.mem.wf = true := rfl

end Sys2Proof.Machine
end

