-- ==== Sys2Proof/Laws/State.lean ====
section
/-! SUPPORT. One lemma per field per update of the state, so that no proof unfolds a record update; and what reading a register
after writing one gives. -/
namespace Sys2Proof.Machine

@[simp] theorem State.setReg_regs (s : State) (r : Reg) (v : Byte) : (s.setReg r v).regs = s.regs.set r v := rfl
@[simp] theorem State.setReg_flags (s : State) (r : Reg) (v : Byte) : (s.setReg r v).flags = s.flags := rfl
@[simp] theorem State.setReg_pc (s : State) (r : Reg) (v : Byte) : (s.setReg r v).pc = s.pc := rfl
@[simp] theorem State.setReg_sp (s : State) (r : Reg) (v : Byte) : (s.setReg r v).sp = s.sp := rfl
@[simp] theorem State.setReg_inte (s : State) (r : Reg) (v : Byte) : (s.setReg r v).inte = s.inte := rfl
@[simp] theorem State.setReg_halted (s : State) (r : Reg) (v : Byte) : (s.setReg r v).halted = s.halted := rfl
@[simp] theorem State.setReg_fault (s : State) (r : Reg) (v : Byte) : (s.setReg r v).fault = s.fault := rfl
@[simp] theorem State.setReg_mem (s : State) (r : Reg) (v : Byte) : (s.setReg r v).mem = s.mem := rfl
@[simp] theorem State.setReg_portOut (s : State) (r : Reg) (v : Byte) : (s.setReg r v).portOut = s.portOut := rfl
@[simp] theorem State.setReg_config (s : State) (r : Reg) (v : Byte) : (s.setReg r v).config = s.config := rfl

@[simp] theorem State.setRegPair_regs (s : State) (p : RegPair) (v : Word) : (s.setRegPair p v).regs = s.regs.setPair p v := rfl
@[simp] theorem State.setRegPair_flags (s : State) (p : RegPair) (v : Word) : (s.setRegPair p v).flags = s.flags := rfl
@[simp] theorem State.setRegPair_pc (s : State) (p : RegPair) (v : Word) : (s.setRegPair p v).pc = s.pc := rfl
@[simp] theorem State.setRegPair_sp (s : State) (p : RegPair) (v : Word) : (s.setRegPair p v).sp = s.sp := rfl
@[simp] theorem State.setRegPair_inte (s : State) (p : RegPair) (v : Word) : (s.setRegPair p v).inte = s.inte := rfl
@[simp] theorem State.setRegPair_halted (s : State) (p : RegPair) (v : Word) : (s.setRegPair p v).halted = s.halted := rfl
@[simp] theorem State.setRegPair_fault (s : State) (p : RegPair) (v : Word) : (s.setRegPair p v).fault = s.fault := rfl
@[simp] theorem State.setRegPair_mem (s : State) (p : RegPair) (v : Word) : (s.setRegPair p v).mem = s.mem := rfl
@[simp] theorem State.setRegPair_portOut (s : State) (p : RegPair) (v : Word) : (s.setRegPair p v).portOut = s.portOut := rfl
@[simp] theorem State.setRegPair_config (s : State) (p : RegPair) (v : Word) : (s.setRegPair p v).config = s.config := rfl

@[simp] theorem State.setFlags_regs (s : State) (f : Flags) : (s.setFlags f).regs = s.regs := rfl
@[simp] theorem State.setFlags_flags (s : State) (f : Flags) : (s.setFlags f).flags = f := rfl
@[simp] theorem State.setFlags_pc (s : State) (f : Flags) : (s.setFlags f).pc = s.pc := rfl
@[simp] theorem State.setFlags_sp (s : State) (f : Flags) : (s.setFlags f).sp = s.sp := rfl
@[simp] theorem State.setFlags_inte (s : State) (f : Flags) : (s.setFlags f).inte = s.inte := rfl
@[simp] theorem State.setFlags_halted (s : State) (f : Flags) : (s.setFlags f).halted = s.halted := rfl
@[simp] theorem State.setFlags_fault (s : State) (f : Flags) : (s.setFlags f).fault = s.fault := rfl
@[simp] theorem State.setFlags_mem (s : State) (f : Flags) : (s.setFlags f).mem = s.mem := rfl
@[simp] theorem State.setFlags_portOut (s : State) (f : Flags) : (s.setFlags f).portOut = s.portOut := rfl
@[simp] theorem State.setFlags_config (s : State) (f : Flags) : (s.setFlags f).config = s.config := rfl

@[simp] theorem State.setCarry_regs (s : State) (c : Bool) : (s.setCarry c).regs = s.regs := rfl
@[simp] theorem State.setCarry_flags (s : State) (c : Bool) : (s.setCarry c).flags = { s.flags with CY := c } := rfl
@[simp] theorem State.setCarry_pc (s : State) (c : Bool) : (s.setCarry c).pc = s.pc := rfl
@[simp] theorem State.setCarry_sp (s : State) (c : Bool) : (s.setCarry c).sp = s.sp := rfl
@[simp] theorem State.setCarry_inte (s : State) (c : Bool) : (s.setCarry c).inte = s.inte := rfl
@[simp] theorem State.setCarry_halted (s : State) (c : Bool) : (s.setCarry c).halted = s.halted := rfl
@[simp] theorem State.setCarry_fault (s : State) (c : Bool) : (s.setCarry c).fault = s.fault := rfl
@[simp] theorem State.setCarry_mem (s : State) (c : Bool) : (s.setCarry c).mem = s.mem := rfl
@[simp] theorem State.setCarry_portOut (s : State) (c : Bool) : (s.setCarry c).portOut = s.portOut := rfl
@[simp] theorem State.setCarry_config (s : State) (c : Bool) : (s.setCarry c).config = s.config := rfl

@[simp] theorem State.setAccumulator_regs (s : State) (r : Byte × Flags) : (s.setAccumulator r).regs = s.regs.set .A r.1 := rfl
@[simp] theorem State.setAccumulator_flags (s : State) (r : Byte × Flags) : (s.setAccumulator r).flags = r.2 := rfl
@[simp] theorem State.setAccumulator_pc (s : State) (r : Byte × Flags) : (s.setAccumulator r).pc = s.pc := rfl
@[simp] theorem State.setAccumulator_sp (s : State) (r : Byte × Flags) : (s.setAccumulator r).sp = s.sp := rfl
@[simp] theorem State.setAccumulator_inte (s : State) (r : Byte × Flags) : (s.setAccumulator r).inte = s.inte := rfl
@[simp] theorem State.setAccumulator_halted (s : State) (r : Byte × Flags) : (s.setAccumulator r).halted = s.halted := rfl
@[simp] theorem State.setAccumulator_fault (s : State) (r : Byte × Flags) : (s.setAccumulator r).fault = s.fault := rfl
@[simp] theorem State.setAccumulator_mem (s : State) (r : Byte × Flags) : (s.setAccumulator r).mem = s.mem := rfl
@[simp] theorem State.setAccumulator_portOut (s : State) (r : Byte × Flags) : (s.setAccumulator r).portOut = s.portOut := rfl
@[simp] theorem State.setAccumulator_config (s : State) (r : Byte × Flags) : (s.setAccumulator r).config = s.config := rfl

@[simp] theorem State.setByteAt_regs (s : State) (a : Int) (v : Byte) : (s.setByteAt a v).regs = s.regs := rfl
@[simp] theorem State.setByteAt_flags (s : State) (a : Int) (v : Byte) : (s.setByteAt a v).flags = s.flags := rfl
@[simp] theorem State.setByteAt_pc (s : State) (a : Int) (v : Byte) : (s.setByteAt a v).pc = s.pc := rfl
@[simp] theorem State.setByteAt_sp (s : State) (a : Int) (v : Byte) : (s.setByteAt a v).sp = s.sp := rfl
@[simp] theorem State.setByteAt_inte (s : State) (a : Int) (v : Byte) : (s.setByteAt a v).inte = s.inte := rfl
@[simp] theorem State.setByteAt_halted (s : State) (a : Int) (v : Byte) : (s.setByteAt a v).halted = s.halted := rfl
@[simp] theorem State.setByteAt_fault (s : State) (a : Int) (v : Byte) : (s.setByteAt a v).fault = s.fault := rfl
@[simp] theorem State.setByteAt_mem (s : State) (a : Int) (v : Byte) : (s.setByteAt a v).mem = s.mem.set a.toNat v := rfl
@[simp] theorem State.setByteAt_portOut (s : State) (a : Int) (v : Byte) : (s.setByteAt a v).portOut = s.portOut := rfl
@[simp] theorem State.setByteAt_config (s : State) (a : Int) (v : Byte) : (s.setByteAt a v).config = s.config := rfl

@[simp] theorem jumpTo_regs (target : Word) (s : State) : (jumpTo target s).regs = s.regs := rfl
@[simp] theorem jumpTo_flags (target : Word) (s : State) : (jumpTo target s).flags = s.flags := rfl
@[simp] theorem jumpTo_pc (target : Word) (s : State) : (jumpTo target s).pc = target := rfl
@[simp] theorem jumpTo_sp (target : Word) (s : State) : (jumpTo target s).sp = s.sp := rfl
@[simp] theorem jumpTo_inte (target : Word) (s : State) : (jumpTo target s).inte = s.inte := rfl
@[simp] theorem jumpTo_halted (target : Word) (s : State) : (jumpTo target s).halted = s.halted := rfl
@[simp] theorem jumpTo_fault (target : Word) (s : State) : (jumpTo target s).fault = s.fault := rfl
@[simp] theorem jumpTo_mem (target : Word) (s : State) : (jumpTo target s).mem = s.mem := rfl
@[simp] theorem jumpTo_portOut (target : Word) (s : State) : (jumpTo target s).portOut = s.portOut := rfl
@[simp] theorem jumpTo_config (target : Word) (s : State) : (jumpTo target s).config = s.config := rfl

@[simp] theorem emitPortOut_regs (p v : Byte) (s : State) : (emitPortOut p v s).regs = s.regs := rfl
@[simp] theorem emitPortOut_flags (p v : Byte) (s : State) : (emitPortOut p v s).flags = s.flags := rfl
@[simp] theorem emitPortOut_pc (p v : Byte) (s : State) : (emitPortOut p v s).pc = s.pc := rfl
@[simp] theorem emitPortOut_sp (p v : Byte) (s : State) : (emitPortOut p v s).sp = s.sp := rfl
@[simp] theorem emitPortOut_inte (p v : Byte) (s : State) : (emitPortOut p v s).inte = s.inte := rfl
@[simp] theorem emitPortOut_halted (p v : Byte) (s : State) : (emitPortOut p v s).halted = s.halted := rfl
@[simp] theorem emitPortOut_fault (p v : Byte) (s : State) : (emitPortOut p v s).fault = s.fault := rfl
@[simp] theorem emitPortOut_mem (p v : Byte) (s : State) : (emitPortOut p v s).mem = s.mem := rfl
@[simp] theorem emitPortOut_portOut (p v : Byte) (s : State) : (emitPortOut p v s).portOut = s.portOut ++ [(p, v)] := rfl
@[simp] theorem emitPortOut_config (p v : Byte) (s : State) : (emitPortOut p v s).config = s.config := rfl

@[simp] theorem takeFault_regs (k : Fault) (s : State) : (takeFault k s).regs = s.regs := rfl
@[simp] theorem takeFault_flags (k : Fault) (s : State) : (takeFault k s).flags = s.flags := rfl
@[simp] theorem takeFault_pc (k : Fault) (s : State) : (takeFault k s).pc = s.pc := rfl
@[simp] theorem takeFault_sp (k : Fault) (s : State) : (takeFault k s).sp = s.sp := rfl
@[simp] theorem takeFault_inte (k : Fault) (s : State) : (takeFault k s).inte = s.inte := rfl
@[simp] theorem takeFault_halted (k : Fault) (s : State) : (takeFault k s).halted = s.halted := rfl
@[simp] theorem takeFault_fault (k : Fault) (s : State) : (takeFault k s).fault = some k := rfl
@[simp] theorem takeFault_mem (k : Fault) (s : State) : (takeFault k s).mem = s.mem := rfl
@[simp] theorem takeFault_portOut (k : Fault) (s : State) : (takeFault k s).portOut = s.portOut := rfl
@[simp] theorem takeFault_config (k : Fault) (s : State) : (takeFault k s).config = s.config := rfl

@[simp] theorem State.setPair_flags (s : State) (p : Pair) (v : Word) : (s.setPair p v).flags = s.flags := by
  cases p <;> rfl
@[simp] theorem State.setPair_pc (s : State) (p : Pair) (v : Word) : (s.setPair p v).pc = s.pc := by
  cases p <;> rfl
@[simp] theorem State.setPair_inte (s : State) (p : Pair) (v : Word) : (s.setPair p v).inte = s.inte := by
  cases p <;> rfl
@[simp] theorem State.setPair_halted (s : State) (p : Pair) (v : Word) : (s.setPair p v).halted = s.halted := by
  cases p <;> rfl
@[simp] theorem State.setPair_fault (s : State) (p : Pair) (v : Word) : (s.setPair p v).fault = s.fault := by
  cases p <;> rfl
@[simp] theorem State.setPair_mem (s : State) (p : Pair) (v : Word) : (s.setPair p v).mem = s.mem := by
  cases p <;> rfl
@[simp] theorem State.setPair_portOut (s : State) (p : Pair) (v : Word) : (s.setPair p v).portOut = s.portOut := by
  cases p <;> rfl
@[simp] theorem State.setPair_config (s : State) (p : Pair) (v : Word) : (s.setPair p v).config = s.config := by
  cases p <;> rfl

theorem State.setPair_rp (s : State) (p : RegPair) (v : Word) : s.setPair (.rp p) v = s.setRegPair p v := rfl

theorem State.setPair_SP (s : State) (v : Word) : s.setPair .SP v = { s with sp := v } := rfl

theorem State.reg_eq (s : State) (r : Reg) : s.reg r = s.regs.get r := rfl

theorem State.regPair_eq (s : State) (p : RegPair) : s.regPair p = s.regs.getPair p := rfl

@[simp] theorem Regs.get_set_same (x : Regs) (r : Reg) (v : Byte) : (x.set r v).get r = v := by
  cases r <;> rfl

theorem Regs.get_set_other (x : Regs) (r q : Reg) (v : Byte) (h : q ≠ r) : (x.set r v).get q = x.get q := by
  cases r <;> cases q <;> first | rfl | exact absurd rfl h

@[simp] theorem Regs.set_get (x : Regs) (r : Reg) : x.set r (x.get r) = x := by
  cases r <;> rfl

@[simp] theorem Regs.set_A (x : Regs) (v : Byte) : x.set .A v = { x with A := v } := rfl
@[simp] theorem Regs.get_A (x : Regs) : x.get .A = x.A := rfl
@[simp] theorem Regs.set_B (x : Regs) (v : Byte) : x.set .B v = { x with B := v } := rfl
@[simp] theorem Regs.get_B (x : Regs) : x.get .B = x.B := rfl
@[simp] theorem Regs.set_C (x : Regs) (v : Byte) : x.set .C v = { x with C := v } := rfl
@[simp] theorem Regs.get_C (x : Regs) : x.get .C = x.C := rfl
@[simp] theorem Regs.set_D (x : Regs) (v : Byte) : x.set .D v = { x with D := v } := rfl
@[simp] theorem Regs.get_D (x : Regs) : x.get .D = x.D := rfl
@[simp] theorem Regs.set_E (x : Regs) (v : Byte) : x.set .E v = { x with E := v } := rfl
@[simp] theorem Regs.get_E (x : Regs) : x.get .E = x.E := rfl
@[simp] theorem Regs.set_H (x : Regs) (v : Byte) : x.set .H v = { x with H := v } := rfl
@[simp] theorem Regs.get_H (x : Regs) : x.get .H = x.H := rfl
@[simp] theorem Regs.set_L (x : Regs) (v : Byte) : x.set .L v = { x with L := v } := rfl
@[simp] theorem Regs.get_L (x : Regs) : x.get .L = x.L := rfl

end Sys2Proof.Machine
end

