-- ==== Sys2Proof/Laws/Ops.lean ====
section
/-! SUPPORT. Each shared operation said once: what it answers, in terms of its checks. -/
namespace Sys2Proof.Machine

theorem inMemory_iff (s : State) (a : Int) : s.inMemory a = true ↔ 0 ≤ a ∧ a < s.config.memSize := by
  simp [State.inMemory]

theorem memRead_eq (s : State) (a : Int) :
    memRead s a = if s.inMemory a then .ok (s.byteAt a) else .error (.boundsError a) := by
  unfold memRead State.checkAddr
  split <;> rfl

theorem memWrite_eq (s : State) (a : Int) (v : Byte) :
    memWrite s a v = if s.inMemory a then .ok (s.setByteAt a v) else .error (.boundsError a) := by
  unfold memWrite State.checkAddr
  split <;> rfl

theorem memRead16_eq (s : State) (a : Int) :
    memRead16 s a =
      if s.inMemory a then
        if s.inMemory (a + 1) then .ok (joinBytes (s.byteAt (a + 1)) (s.byteAt a)) else .error (.boundsError (a + 1))
      else .error (.boundsError a) := by
  unfold memRead16 State.checkAddr
  split <;> [split <;> rfl; rfl]

theorem memWrite16_eq (s : State) (a : Int) (v : Word) :
    memWrite16 s a v =
      if s.inMemory a then
        if s.inMemory (a + 1) then .ok ((s.setByteAt a (loByte v)).setByteAt (a + 1) (hiByte v))
        else .error (.boundsError (a + 1))
      else .error (.boundsError a) := by
  unfold memWrite16 State.checkAddr
  split <;> [split <;> rfl; rfl]

theorem fit16_ok {n : Nat} (h : n ≤ 0xFFFF) : fit16 n = .ok (BitVec.ofNat 16 n) := if_pos h

theorem fit16_error {n : Nat} (h : 0xFFFF < n) : fit16 n = .error (.boundsError n) := if_neg (by omega)

theorem push16_eq (s : State) (v : Word) :
    push16 s v =
      if s.inMemory (addrOf s.sp - 1) then
        if s.inMemory (addrOf s.sp - 2) then
          .ok { s with mem := (s.mem.set (addrOf s.sp - 1).toNat (hiByte v)).set (addrOf s.sp - 2).toNat (loByte v),
                       sp := s.sp - 2 }
        else .error (.boundsError (addrOf s.sp - 2))
      else .error (.boundsError (addrOf s.sp - 1)) := by
  unfold push16 State.checkAddr
  split <;> [split <;> rfl; rfl]

/-- A pop that succeeds: both stack bytes exist, SP + 2 fits, and nothing but SP changes. -/
theorem pop16_ok {s t : State} {v : Word} (h : pop16 s = .ok (v, t)) :
    s.inMemory (addrOf s.sp) = true ∧ s.inMemory (addrOf s.sp + 1) = true ∧ s.sp.toNat + 2 ≤ 0xFFFF
      ∧ v = joinBytes (s.byteAt (addrOf s.sp + 1)) (s.byteAt (addrOf s.sp))
      ∧ t = { s with sp := BitVec.ofNat 16 (s.sp.toNat + 2) } := by
  unfold pop16 at h
  rw [memRead16_eq] at h
  unfold fit16 at h
  split at h
  · split at h
    · split at h
      · rename_i h1 h2 h3
        cases h
        exact ⟨h1, h2, h3, rfl, rfl⟩
      · cases h
    · cases h
  · cases h

theorem advance_ok {len : Nat} {s : State} (h : s.pc.toNat + len ≤ 0xFFFF) :
    advance len s = .ok { s with pc := s.pc + BitVec.ofNat 16 len } := by
  have hpc : BitVec.ofNat 16 (s.pc.toNat + len) = s.pc + BitVec.ofNat 16 len := by
    rw [BitVec.ofNat_add, BitVec.ofNat_toNat, BitVec.setWidth_eq]
  unfold advance
  rw [fit16_ok h, ← hpc]
  rfl

theorem advance_error {len : Nat} {s : State} (h : 0xFFFF < s.pc.toNat + len) :
    advance len s = .error (.boundsError ((s.pc.toNat + len : Nat) : Int)) := by
  unfold advance
  rw [fit16_error h]
  rfl

@[simp] theorem finish_ok (s t : State) : finish s (.ok t) = .next t := rfl

@[simp] theorem finish_error (s : State) (k : Fault) : finish s (.error k) = .next (takeFault k s) := rfl

/-- Everything a pop can do, with its checks in order. -/
theorem pop16_eq (s : State) :
    pop16 s =
      if s.inMemory (addrOf s.sp) then
        if s.inMemory (addrOf s.sp + 1) then
          if s.sp.toNat + 2 ≤ 0xFFFF then
            .ok (joinBytes (s.byteAt (addrOf s.sp + 1)) (s.byteAt (addrOf s.sp)),
              { s with sp := BitVec.ofNat 16 (s.sp.toNat + 2) })
          else .error (.boundsError ((s.sp.toNat + 2 : Nat) : Int))
        else .error (.boundsError (addrOf s.sp + 1))
      else .error (.boundsError (addrOf s.sp)) := by
  unfold pop16 fit16
  rw [memRead16_eq]
  split <;> [split <;> [split <;> rfl; rfl]; rfl]

/-- Everything a sequential advance can do. -/
theorem advance_eq (len : Nat) (s : State) :
    advance len s =
      if s.pc.toNat + len ≤ 0xFFFF then .ok { s with pc := BitVec.ofNat 16 (s.pc.toNat + len) }
      else .error (.boundsError ((s.pc.toNat + len : Nat) : Int)) := by
  unfold advance fit16
  split <;> rfl

/-- Everything a call can do: the return address, the two stack bytes, in order. -/
theorem callTo_eq (target : Word) (len : Nat) (s : State) :
    callTo target len s =
      if s.pc.toNat + len ≤ 0xFFFF then
        (push16 s (BitVec.ofNat 16 (s.pc.toNat + len))).map (jumpTo target)
      else .error (.boundsError ((s.pc.toNat + len : Nat) : Int)) := by
  unfold callTo fit16
  split
  · cases h : push16 s (BitVec.ofNat 16 (s.pc.toNat + len)) <;> simp [bind, Except.bind, h] <;> rfl
  · rfl

/-- Everything a return can do. -/
theorem returnFrom_eq (s : State) : returnFrom s = (pop16 s).map (fun r => jumpTo r.1 r.2) := by
  unfold returnFrom
  cases pop16 s <;> rfl

theorem readOperand_reg (s : State) (r : Reg) : readOperand s (.reg r) = .ok (s.regs.get r) := rfl

theorem readOperand_M (s : State) :
    readOperand s .M =
      if s.inMemory (addrOf (s.regPair .HL)) then .ok (s.byteAt (addrOf (s.regPair .HL)))
      else .error (.boundsError (addrOf (s.regPair .HL))) :=
  memRead_eq s (addrOf (s.regPair .HL))

theorem writeOperand_reg (s : State) (r : Reg) (v : Byte) : writeOperand s (.reg r) v = .ok (s.setReg r v) := rfl

theorem writeOperand_M (s : State) (v : Byte) :
    writeOperand s .M v =
      if s.inMemory (addrOf (s.regPair .HL)) then .ok (s.setByteAt (addrOf (s.regPair .HL)) v)
      else .error (.boundsError (addrOf (s.regPair .HL))) :=
  memWrite_eq s (addrOf (s.regPair .HL)) v

/-- Everything the fetch of an operand byte can do. -/
theorem fetchOperand_eq (s : State) (len k : Nat) :
    fetchOperand s len k =
      if k < len then
        if s.inMemory (addrOf s.pc + k) then .ok (s.byteAt (addrOf s.pc + k)) else .error (.boundsError (addrOf s.pc + k))
      else .ok 0 := by
  unfold fetchOperand
  rw [memRead_eq]

/-- A fetch that succeeds: the opcode is there and defined, and so are the operand bytes its length asks for. -/
theorem fetch_ok {s : State} {i : Instr} (h : fetch s = .ok i) :
    ∃ op b2 b3, s.inMemory (addrOf s.pc) = true ∧ op = s.byteAt (addrOf s.pc) ∧ s.config.undefSet.contains op = false
      ∧ fetchOperand s (opcodeLength op) 1 = .ok b2 ∧ fetchOperand s (opcodeLength op) 2 = .ok b3
      ∧ i = decodeOpcode op b2 b3 := by
  unfold fetch at h
  rw [memRead_eq] at h
  simp only [bind, Except.bind] at h
  split at h
  · cases h
  · rename_i op hop
    split at hop
    · rename_i hm
      cases hop
      split at h
      · cases h
      · rename_i hu
        split at h
        · cases h
        · rename_i b2 h2
          split at h
          · cases h
          · rename_i b3 h3
            cases h
            exact ⟨_, b2, b3, hm, rfl, by simpa using hu, h2, h3, rfl⟩
    · cases hop

/-- The end of an instruction that changed no PC, when the next PC fits. -/
theorem finish_advance {len : Nat} {s t : State} (hpc : t.pc = s.pc) (h : s.pc.toNat + len ≤ 0xFFFF) :
    finish s (advance len t) = .next { t with pc := s.pc + BitVec.ofNat 16 len } := by
  rw [advance_ok (by rw [hpc]; exact h), hpc]
  rfl

/-- The end of an instruction that changed no PC, when the next PC does not fit. -/
theorem finish_advance_error {len : Nat} {s t : State} (hpc : t.pc = s.pc) (h : 0xFFFF < s.pc.toNat + len) :
    finish s (advance len t) = .next (takeFault (.boundsError ((s.pc.toNat + len : Nat) : Int)) s) := by
  rw [advance_error (by rw [hpc]; exact h), hpc]
  rfl

/-- HL as the address of M. -/
theorem addrOf_HL (s : State) : addrOf (s.regPair .HL) = ((256 * s.regs.H.toNat + s.regs.L.toNat : Nat) : Int) := by
  simp [addrOf, State.regPair, Regs.getPair, highReg, lowReg, Regs.get, toNat_joinBytes]

/-- What a running core's step is: a fetch that faults is taken into the latch, and what is fetched is executed. -/
theorem step_running {s : State} (hf : s.fault = none) (hh : s.halted = false) :
    step s = match fetch s with
      | .error k => .next (takeFault k s)
      | .ok i => exec i s := by
  cases h : fetch s <;> simp [step, hf, hh, h]

/-- A step that answers a next state was asked of a running core. -/
theorem step_next_running {s t : State} (h : step s = .next t) : s.halted = false ∧ s.fault = none := by
  unfold step at h
  split at h
  · cases h
  · rename_i hf
    split at h
    · cases h
    · rename_i hh
      exact ⟨by simpa using hh, hf⟩

end Sys2Proof.Machine
end

