-- ==== Sys2Proof/Laws/PerInstr.lean ====
section
/-! SUPPORT. The family `EncodedForm` of facts about every instruction as syntax: `Length` of its opcode is the number of its
bytes (R50, R58), and its opcode is none of the alias values, so no UNDEF_SET removes it (R64). -/

def Sys2Proof.Laws.EncodedForm.Statement (i : Sys2Proof.Instr) : Prop :=
  Sys2Proof.opcodeLength (Sys2Proof.opcode i) = i.length ∧ Sys2Proof.opcode i ∉ Sys2Proof.aliasOpcodes

namespace Sys2Proof.Laws.EncodedForm

/-- The statement, from the opcode's value and the two lengths. -/
theorem of_values {i : Instr} {op : Byte} {n : Nat} (hop : opcode i = op) (hlen : opcodeLength op = n)
    (hn : i.length = n) (ha : op ∉ aliasOpcodes) : Statement i := by
  subst hop
  exact ⟨hlen.trans hn.symm, ha⟩

theorem nop : Statement .nop :=
  of_values (op := 0x00) (n := 1) rfl (by decide) rfl (by decide)
theorem lxiB (d16 : Word) : Statement (.lxiB d16) :=
  of_values (op := 0x01) (n := 3) rfl (by decide) rfl (by decide)
theorem staxB : Statement .staxB :=
  of_values (op := 0x02) (n := 1) rfl (by decide) rfl (by decide)
theorem inxB : Statement .inxB :=
  of_values (op := 0x03) (n := 1) rfl (by decide) rfl (by decide)
theorem inrB : Statement .inrB :=
  of_values (op := 0x04) (n := 1) rfl (by decide) rfl (by decide)
theorem dcrB : Statement .dcrB :=
  of_values (op := 0x05) (n := 1) rfl (by decide) rfl (by decide)
theorem mviB (d8 : Byte) : Statement (.mviB d8) :=
  of_values (op := 0x06) (n := 2) rfl (by decide) rfl (by decide)
theorem rlc : Statement .rlc :=
  of_values (op := 0x07) (n := 1) rfl (by decide) rfl (by decide)
theorem dadB : Statement .dadB :=
  of_values (op := 0x09) (n := 1) rfl (by decide) rfl (by decide)
theorem ldaxB : Statement .ldaxB :=
  of_values (op := 0x0A) (n := 1) rfl (by decide) rfl (by decide)
theorem dcxB : Statement .dcxB :=
  of_values (op := 0x0B) (n := 1) rfl (by decide) rfl (by decide)
theorem inrC : Statement .inrC :=
  of_values (op := 0x0C) (n := 1) rfl (by decide) rfl (by decide)
theorem dcrC : Statement .dcrC :=
  of_values (op := 0x0D) (n := 1) rfl (by decide) rfl (by decide)
theorem mviC (d8 : Byte) : Statement (.mviC d8) :=
  of_values (op := 0x0E) (n := 2) rfl (by decide) rfl (by decide)
theorem rrc : Statement .rrc :=
  of_values (op := 0x0F) (n := 1) rfl (by decide) rfl (by decide)
theorem lxiD (d16 : Word) : Statement (.lxiD d16) :=
  of_values (op := 0x11) (n := 3) rfl (by decide) rfl (by decide)
theorem staxD : Statement .staxD :=
  of_values (op := 0x12) (n := 1) rfl (by decide) rfl (by decide)
theorem inxD : Statement .inxD :=
  of_values (op := 0x13) (n := 1) rfl (by decide) rfl (by decide)
theorem inrD : Statement .inrD :=
  of_values (op := 0x14) (n := 1) rfl (by decide) rfl (by decide)
theorem dcrD : Statement .dcrD :=
  of_values (op := 0x15) (n := 1) rfl (by decide) rfl (by decide)
theorem mviD (d8 : Byte) : Statement (.mviD d8) :=
  of_values (op := 0x16) (n := 2) rfl (by decide) rfl (by decide)
theorem ral : Statement .ral :=
  of_values (op := 0x17) (n := 1) rfl (by decide) rfl (by decide)
theorem dadD : Statement .dadD :=
  of_values (op := 0x19) (n := 1) rfl (by decide) rfl (by decide)
theorem ldaxD : Statement .ldaxD :=
  of_values (op := 0x1A) (n := 1) rfl (by decide) rfl (by decide)
theorem dcxD : Statement .dcxD :=
  of_values (op := 0x1B) (n := 1) rfl (by decide) rfl (by decide)
theorem inrE : Statement .inrE :=
  of_values (op := 0x1C) (n := 1) rfl (by decide) rfl (by decide)
theorem dcrE : Statement .dcrE :=
  of_values (op := 0x1D) (n := 1) rfl (by decide) rfl (by decide)
theorem mviE (d8 : Byte) : Statement (.mviE d8) :=
  of_values (op := 0x1E) (n := 2) rfl (by decide) rfl (by decide)
theorem rar : Statement .rar :=
  of_values (op := 0x1F) (n := 1) rfl (by decide) rfl (by decide)
theorem lxiH (d16 : Word) : Statement (.lxiH d16) :=
  of_values (op := 0x21) (n := 3) rfl (by decide) rfl (by decide)
theorem shld (a16 : Word) : Statement (.shld a16) :=
  of_values (op := 0x22) (n := 3) rfl (by decide) rfl (by decide)
theorem inxH : Statement .inxH :=
  of_values (op := 0x23) (n := 1) rfl (by decide) rfl (by decide)
theorem inrH : Statement .inrH :=
  of_values (op := 0x24) (n := 1) rfl (by decide) rfl (by decide)
theorem dcrH : Statement .dcrH :=
  of_values (op := 0x25) (n := 1) rfl (by decide) rfl (by decide)
theorem mviH (d8 : Byte) : Statement (.mviH d8) :=
  of_values (op := 0x26) (n := 2) rfl (by decide) rfl (by decide)
theorem daa : Statement .daa :=
  of_values (op := 0x27) (n := 1) rfl (by decide) rfl (by decide)
theorem dadH : Statement .dadH :=
  of_values (op := 0x29) (n := 1) rfl (by decide) rfl (by decide)
theorem lhld (a16 : Word) : Statement (.lhld a16) :=
  of_values (op := 0x2A) (n := 3) rfl (by decide) rfl (by decide)
theorem dcxH : Statement .dcxH :=
  of_values (op := 0x2B) (n := 1) rfl (by decide) rfl (by decide)
theorem inrL : Statement .inrL :=
  of_values (op := 0x2C) (n := 1) rfl (by decide) rfl (by decide)
theorem dcrL : Statement .dcrL :=
  of_values (op := 0x2D) (n := 1) rfl (by decide) rfl (by decide)
theorem mviL (d8 : Byte) : Statement (.mviL d8) :=
  of_values (op := 0x2E) (n := 2) rfl (by decide) rfl (by decide)
theorem cma : Statement .cma :=
  of_values (op := 0x2F) (n := 1) rfl (by decide) rfl (by decide)
theorem lxiSP (d16 : Word) : Statement (.lxiSP d16) :=
  of_values (op := 0x31) (n := 3) rfl (by decide) rfl (by decide)
theorem sta (a16 : Word) : Statement (.sta a16) :=
  of_values (op := 0x32) (n := 3) rfl (by decide) rfl (by decide)
theorem inxSP : Statement .inxSP :=
  of_values (op := 0x33) (n := 1) rfl (by decide) rfl (by decide)
theorem inrM : Statement .inrM :=
  of_values (op := 0x34) (n := 1) rfl (by decide) rfl (by decide)
theorem dcrM : Statement .dcrM :=
  of_values (op := 0x35) (n := 1) rfl (by decide) rfl (by decide)
theorem mviM (d8 : Byte) : Statement (.mviM d8) :=
  of_values (op := 0x36) (n := 2) rfl (by decide) rfl (by decide)
theorem stc : Statement .stc :=
  of_values (op := 0x37) (n := 1) rfl (by decide) rfl (by decide)
theorem dadSP : Statement .dadSP :=
  of_values (op := 0x39) (n := 1) rfl (by decide) rfl (by decide)
theorem lda (a16 : Word) : Statement (.lda a16) :=
  of_values (op := 0x3A) (n := 3) rfl (by decide) rfl (by decide)
theorem dcxSP : Statement .dcxSP :=
  of_values (op := 0x3B) (n := 1) rfl (by decide) rfl (by decide)
theorem inrA : Statement .inrA :=
  of_values (op := 0x3C) (n := 1) rfl (by decide) rfl (by decide)
theorem dcrA : Statement .dcrA :=
  of_values (op := 0x3D) (n := 1) rfl (by decide) rfl (by decide)
theorem mviA (d8 : Byte) : Statement (.mviA d8) :=
  of_values (op := 0x3E) (n := 2) rfl (by decide) rfl (by decide)
theorem cmc : Statement .cmc :=
  of_values (op := 0x3F) (n := 1) rfl (by decide) rfl (by decide)
theorem movBB : Statement .movBB :=
  of_values (op := 0x40) (n := 1) rfl (by decide) rfl (by decide)
theorem movBC : Statement .movBC :=
  of_values (op := 0x41) (n := 1) rfl (by decide) rfl (by decide)
theorem movBD : Statement .movBD :=
  of_values (op := 0x42) (n := 1) rfl (by decide) rfl (by decide)
theorem movBE : Statement .movBE :=
  of_values (op := 0x43) (n := 1) rfl (by decide) rfl (by decide)
theorem movBH : Statement .movBH :=
  of_values (op := 0x44) (n := 1) rfl (by decide) rfl (by decide)
theorem movBL : Statement .movBL :=
  of_values (op := 0x45) (n := 1) rfl (by decide) rfl (by decide)
theorem movBM : Statement .movBM :=
  of_values (op := 0x46) (n := 1) rfl (by decide) rfl (by decide)
theorem movBA : Statement .movBA :=
  of_values (op := 0x47) (n := 1) rfl (by decide) rfl (by decide)
theorem movCB : Statement .movCB :=
  of_values (op := 0x48) (n := 1) rfl (by decide) rfl (by decide)
theorem movCC : Statement .movCC :=
  of_values (op := 0x49) (n := 1) rfl (by decide) rfl (by decide)
theorem movCD : Statement .movCD :=
  of_values (op := 0x4A) (n := 1) rfl (by decide) rfl (by decide)
theorem movCE : Statement .movCE :=
  of_values (op := 0x4B) (n := 1) rfl (by decide) rfl (by decide)
theorem movCH : Statement .movCH :=
  of_values (op := 0x4C) (n := 1) rfl (by decide) rfl (by decide)
theorem movCL : Statement .movCL :=
  of_values (op := 0x4D) (n := 1) rfl (by decide) rfl (by decide)
theorem movCM : Statement .movCM :=
  of_values (op := 0x4E) (n := 1) rfl (by decide) rfl (by decide)
theorem movCA : Statement .movCA :=
  of_values (op := 0x4F) (n := 1) rfl (by decide) rfl (by decide)
theorem movDB : Statement .movDB :=
  of_values (op := 0x50) (n := 1) rfl (by decide) rfl (by decide)
theorem movDC : Statement .movDC :=
  of_values (op := 0x51) (n := 1) rfl (by decide) rfl (by decide)
theorem movDD : Statement .movDD :=
  of_values (op := 0x52) (n := 1) rfl (by decide) rfl (by decide)
theorem movDE : Statement .movDE :=
  of_values (op := 0x53) (n := 1) rfl (by decide) rfl (by decide)
theorem movDH : Statement .movDH :=
  of_values (op := 0x54) (n := 1) rfl (by decide) rfl (by decide)
theorem movDL : Statement .movDL :=
  of_values (op := 0x55) (n := 1) rfl (by decide) rfl (by decide)
theorem movDM : Statement .movDM :=
  of_values (op := 0x56) (n := 1) rfl (by decide) rfl (by decide)
theorem movDA : Statement .movDA :=
  of_values (op := 0x57) (n := 1) rfl (by decide) rfl (by decide)
theorem movEB : Statement .movEB :=
  of_values (op := 0x58) (n := 1) rfl (by decide) rfl (by decide)
theorem movEC : Statement .movEC :=
  of_values (op := 0x59) (n := 1) rfl (by decide) rfl (by decide)
theorem movED : Statement .movED :=
  of_values (op := 0x5A) (n := 1) rfl (by decide) rfl (by decide)
theorem movEE : Statement .movEE :=
  of_values (op := 0x5B) (n := 1) rfl (by decide) rfl (by decide)
theorem movEH : Statement .movEH :=
  of_values (op := 0x5C) (n := 1) rfl (by decide) rfl (by decide)
theorem movEL : Statement .movEL :=
  of_values (op := 0x5D) (n := 1) rfl (by decide) rfl (by decide)
theorem movEM : Statement .movEM :=
  of_values (op := 0x5E) (n := 1) rfl (by decide) rfl (by decide)
theorem movEA : Statement .movEA :=
  of_values (op := 0x5F) (n := 1) rfl (by decide) rfl (by decide)
theorem movHB : Statement .movHB :=
  of_values (op := 0x60) (n := 1) rfl (by decide) rfl (by decide)
theorem movHC : Statement .movHC :=
  of_values (op := 0x61) (n := 1) rfl (by decide) rfl (by decide)
theorem movHD : Statement .movHD :=
  of_values (op := 0x62) (n := 1) rfl (by decide) rfl (by decide)
theorem movHE : Statement .movHE :=
  of_values (op := 0x63) (n := 1) rfl (by decide) rfl (by decide)
theorem movHH : Statement .movHH :=
  of_values (op := 0x64) (n := 1) rfl (by decide) rfl (by decide)
theorem movHL : Statement .movHL :=
  of_values (op := 0x65) (n := 1) rfl (by decide) rfl (by decide)
theorem movHM : Statement .movHM :=
  of_values (op := 0x66) (n := 1) rfl (by decide) rfl (by decide)
theorem movHA : Statement .movHA :=
  of_values (op := 0x67) (n := 1) rfl (by decide) rfl (by decide)
theorem movLB : Statement .movLB :=
  of_values (op := 0x68) (n := 1) rfl (by decide) rfl (by decide)
theorem movLC : Statement .movLC :=
  of_values (op := 0x69) (n := 1) rfl (by decide) rfl (by decide)
theorem movLD : Statement .movLD :=
  of_values (op := 0x6A) (n := 1) rfl (by decide) rfl (by decide)
theorem movLE : Statement .movLE :=
  of_values (op := 0x6B) (n := 1) rfl (by decide) rfl (by decide)
theorem movLH : Statement .movLH :=
  of_values (op := 0x6C) (n := 1) rfl (by decide) rfl (by decide)
theorem movLL : Statement .movLL :=
  of_values (op := 0x6D) (n := 1) rfl (by decide) rfl (by decide)
theorem movLM : Statement .movLM :=
  of_values (op := 0x6E) (n := 1) rfl (by decide) rfl (by decide)
theorem movLA : Statement .movLA :=
  of_values (op := 0x6F) (n := 1) rfl (by decide) rfl (by decide)
theorem movMB : Statement .movMB :=
  of_values (op := 0x70) (n := 1) rfl (by decide) rfl (by decide)
theorem movMC : Statement .movMC :=
  of_values (op := 0x71) (n := 1) rfl (by decide) rfl (by decide)
theorem movMD : Statement .movMD :=
  of_values (op := 0x72) (n := 1) rfl (by decide) rfl (by decide)
theorem movME : Statement .movME :=
  of_values (op := 0x73) (n := 1) rfl (by decide) rfl (by decide)
theorem movMH : Statement .movMH :=
  of_values (op := 0x74) (n := 1) rfl (by decide) rfl (by decide)
theorem movML : Statement .movML :=
  of_values (op := 0x75) (n := 1) rfl (by decide) rfl (by decide)
theorem hlt : Statement .hlt :=
  of_values (op := 0x76) (n := 1) rfl (by decide) rfl (by decide)
theorem movMA : Statement .movMA :=
  of_values (op := 0x77) (n := 1) rfl (by decide) rfl (by decide)
theorem movAB : Statement .movAB :=
  of_values (op := 0x78) (n := 1) rfl (by decide) rfl (by decide)
theorem movAC : Statement .movAC :=
  of_values (op := 0x79) (n := 1) rfl (by decide) rfl (by decide)
theorem movAD : Statement .movAD :=
  of_values (op := 0x7A) (n := 1) rfl (by decide) rfl (by decide)
theorem movAE : Statement .movAE :=
  of_values (op := 0x7B) (n := 1) rfl (by decide) rfl (by decide)
theorem movAH : Statement .movAH :=
  of_values (op := 0x7C) (n := 1) rfl (by decide) rfl (by decide)
theorem movAL : Statement .movAL :=
  of_values (op := 0x7D) (n := 1) rfl (by decide) rfl (by decide)
theorem movAM : Statement .movAM :=
  of_values (op := 0x7E) (n := 1) rfl (by decide) rfl (by decide)
theorem movAA : Statement .movAA :=
  of_values (op := 0x7F) (n := 1) rfl (by decide) rfl (by decide)
theorem addB : Statement .addB :=
  of_values (op := 0x80) (n := 1) rfl (by decide) rfl (by decide)
theorem addC : Statement .addC :=
  of_values (op := 0x81) (n := 1) rfl (by decide) rfl (by decide)
theorem addD : Statement .addD :=
  of_values (op := 0x82) (n := 1) rfl (by decide) rfl (by decide)
theorem addE : Statement .addE :=
  of_values (op := 0x83) (n := 1) rfl (by decide) rfl (by decide)
theorem addH : Statement .addH :=
  of_values (op := 0x84) (n := 1) rfl (by decide) rfl (by decide)
theorem addL : Statement .addL :=
  of_values (op := 0x85) (n := 1) rfl (by decide) rfl (by decide)
theorem addM : Statement .addM :=
  of_values (op := 0x86) (n := 1) rfl (by decide) rfl (by decide)
theorem addA : Statement .addA :=
  of_values (op := 0x87) (n := 1) rfl (by decide) rfl (by decide)
theorem adcB : Statement .adcB :=
  of_values (op := 0x88) (n := 1) rfl (by decide) rfl (by decide)
theorem adcC : Statement .adcC :=
  of_values (op := 0x89) (n := 1) rfl (by decide) rfl (by decide)
theorem adcD : Statement .adcD :=
  of_values (op := 0x8A) (n := 1) rfl (by decide) rfl (by decide)
theorem adcE : Statement .adcE :=
  of_values (op := 0x8B) (n := 1) rfl (by decide) rfl (by decide)
theorem adcH : Statement .adcH :=
  of_values (op := 0x8C) (n := 1) rfl (by decide) rfl (by decide)
theorem adcL : Statement .adcL :=
  of_values (op := 0x8D) (n := 1) rfl (by decide) rfl (by decide)
theorem adcM : Statement .adcM :=
  of_values (op := 0x8E) (n := 1) rfl (by decide) rfl (by decide)
theorem adcA : Statement .adcA :=
  of_values (op := 0x8F) (n := 1) rfl (by decide) rfl (by decide)
theorem subB : Statement .subB :=
  of_values (op := 0x90) (n := 1) rfl (by decide) rfl (by decide)
theorem subC : Statement .subC :=
  of_values (op := 0x91) (n := 1) rfl (by decide) rfl (by decide)
theorem subD : Statement .subD :=
  of_values (op := 0x92) (n := 1) rfl (by decide) rfl (by decide)
theorem subE : Statement .subE :=
  of_values (op := 0x93) (n := 1) rfl (by decide) rfl (by decide)
theorem subH : Statement .subH :=
  of_values (op := 0x94) (n := 1) rfl (by decide) rfl (by decide)
theorem subL : Statement .subL :=
  of_values (op := 0x95) (n := 1) rfl (by decide) rfl (by decide)
theorem subM : Statement .subM :=
  of_values (op := 0x96) (n := 1) rfl (by decide) rfl (by decide)
theorem subA : Statement .subA :=
  of_values (op := 0x97) (n := 1) rfl (by decide) rfl (by decide)
theorem sbbB : Statement .sbbB :=
  of_values (op := 0x98) (n := 1) rfl (by decide) rfl (by decide)
theorem sbbC : Statement .sbbC :=
  of_values (op := 0x99) (n := 1) rfl (by decide) rfl (by decide)
theorem sbbD : Statement .sbbD :=
  of_values (op := 0x9A) (n := 1) rfl (by decide) rfl (by decide)
theorem sbbE : Statement .sbbE :=
  of_values (op := 0x9B) (n := 1) rfl (by decide) rfl (by decide)
theorem sbbH : Statement .sbbH :=
  of_values (op := 0x9C) (n := 1) rfl (by decide) rfl (by decide)
theorem sbbL : Statement .sbbL :=
  of_values (op := 0x9D) (n := 1) rfl (by decide) rfl (by decide)
theorem sbbM : Statement .sbbM :=
  of_values (op := 0x9E) (n := 1) rfl (by decide) rfl (by decide)
theorem sbbA : Statement .sbbA :=
  of_values (op := 0x9F) (n := 1) rfl (by decide) rfl (by decide)
theorem anaB : Statement .anaB :=
  of_values (op := 0xA0) (n := 1) rfl (by decide) rfl (by decide)
theorem anaC : Statement .anaC :=
  of_values (op := 0xA1) (n := 1) rfl (by decide) rfl (by decide)
theorem anaD : Statement .anaD :=
  of_values (op := 0xA2) (n := 1) rfl (by decide) rfl (by decide)
theorem anaE : Statement .anaE :=
  of_values (op := 0xA3) (n := 1) rfl (by decide) rfl (by decide)
theorem anaH : Statement .anaH :=
  of_values (op := 0xA4) (n := 1) rfl (by decide) rfl (by decide)
theorem anaL : Statement .anaL :=
  of_values (op := 0xA5) (n := 1) rfl (by decide) rfl (by decide)
theorem anaM : Statement .anaM :=
  of_values (op := 0xA6) (n := 1) rfl (by decide) rfl (by decide)
theorem anaA : Statement .anaA :=
  of_values (op := 0xA7) (n := 1) rfl (by decide) rfl (by decide)
theorem xraB : Statement .xraB :=
  of_values (op := 0xA8) (n := 1) rfl (by decide) rfl (by decide)
theorem xraC : Statement .xraC :=
  of_values (op := 0xA9) (n := 1) rfl (by decide) rfl (by decide)
theorem xraD : Statement .xraD :=
  of_values (op := 0xAA) (n := 1) rfl (by decide) rfl (by decide)
theorem xraE : Statement .xraE :=
  of_values (op := 0xAB) (n := 1) rfl (by decide) rfl (by decide)
theorem xraH : Statement .xraH :=
  of_values (op := 0xAC) (n := 1) rfl (by decide) rfl (by decide)
theorem xraL : Statement .xraL :=
  of_values (op := 0xAD) (n := 1) rfl (by decide) rfl (by decide)
theorem xraM : Statement .xraM :=
  of_values (op := 0xAE) (n := 1) rfl (by decide) rfl (by decide)
theorem xraA : Statement .xraA :=
  of_values (op := 0xAF) (n := 1) rfl (by decide) rfl (by decide)
theorem oraB : Statement .oraB :=
  of_values (op := 0xB0) (n := 1) rfl (by decide) rfl (by decide)
theorem oraC : Statement .oraC :=
  of_values (op := 0xB1) (n := 1) rfl (by decide) rfl (by decide)
theorem oraD : Statement .oraD :=
  of_values (op := 0xB2) (n := 1) rfl (by decide) rfl (by decide)
theorem oraE : Statement .oraE :=
  of_values (op := 0xB3) (n := 1) rfl (by decide) rfl (by decide)
theorem oraH : Statement .oraH :=
  of_values (op := 0xB4) (n := 1) rfl (by decide) rfl (by decide)
theorem oraL : Statement .oraL :=
  of_values (op := 0xB5) (n := 1) rfl (by decide) rfl (by decide)
theorem oraM : Statement .oraM :=
  of_values (op := 0xB6) (n := 1) rfl (by decide) rfl (by decide)
theorem oraA : Statement .oraA :=
  of_values (op := 0xB7) (n := 1) rfl (by decide) rfl (by decide)
theorem cmpB : Statement .cmpB :=
  of_values (op := 0xB8) (n := 1) rfl (by decide) rfl (by decide)
theorem cmpC : Statement .cmpC :=
  of_values (op := 0xB9) (n := 1) rfl (by decide) rfl (by decide)
theorem cmpD : Statement .cmpD :=
  of_values (op := 0xBA) (n := 1) rfl (by decide) rfl (by decide)
theorem cmpE : Statement .cmpE :=
  of_values (op := 0xBB) (n := 1) rfl (by decide) rfl (by decide)
theorem cmpH : Statement .cmpH :=
  of_values (op := 0xBC) (n := 1) rfl (by decide) rfl (by decide)
theorem cmpL : Statement .cmpL :=
  of_values (op := 0xBD) (n := 1) rfl (by decide) rfl (by decide)
theorem cmpM : Statement .cmpM :=
  of_values (op := 0xBE) (n := 1) rfl (by decide) rfl (by decide)
theorem cmpA : Statement .cmpA :=
  of_values (op := 0xBF) (n := 1) rfl (by decide) rfl (by decide)
theorem rnz : Statement .rnz :=
  of_values (op := 0xC0) (n := 1) rfl (by decide) rfl (by decide)
theorem popB : Statement .popB :=
  of_values (op := 0xC1) (n := 1) rfl (by decide) rfl (by decide)
theorem jnz (a16 : Word) : Statement (.jnz a16) :=
  of_values (op := 0xC2) (n := 3) rfl (by decide) rfl (by decide)
theorem jmp (a16 : Word) : Statement (.jmp a16) :=
  of_values (op := 0xC3) (n := 3) rfl (by decide) rfl (by decide)
theorem cnz (a16 : Word) : Statement (.cnz a16) :=
  of_values (op := 0xC4) (n := 3) rfl (by decide) rfl (by decide)
theorem pushB : Statement .pushB :=
  of_values (op := 0xC5) (n := 1) rfl (by decide) rfl (by decide)
theorem adi (d8 : Byte) : Statement (.adi d8) :=
  of_values (op := 0xC6) (n := 2) rfl (by decide) rfl (by decide)
theorem rst0 : Statement .rst0 :=
  of_values (op := 0xC7) (n := 1) rfl (by decide) rfl (by decide)
theorem rz : Statement .rz :=
  of_values (op := 0xC8) (n := 1) rfl (by decide) rfl (by decide)
theorem ret : Statement .ret :=
  of_values (op := 0xC9) (n := 1) rfl (by decide) rfl (by decide)
theorem jz (a16 : Word) : Statement (.jz a16) :=
  of_values (op := 0xCA) (n := 3) rfl (by decide) rfl (by decide)
theorem cz (a16 : Word) : Statement (.cz a16) :=
  of_values (op := 0xCC) (n := 3) rfl (by decide) rfl (by decide)
theorem call (a16 : Word) : Statement (.call a16) :=
  of_values (op := 0xCD) (n := 3) rfl (by decide) rfl (by decide)
theorem aci (d8 : Byte) : Statement (.aci d8) :=
  of_values (op := 0xCE) (n := 2) rfl (by decide) rfl (by decide)
theorem rst1 : Statement .rst1 :=
  of_values (op := 0xCF) (n := 1) rfl (by decide) rfl (by decide)
theorem rnc : Statement .rnc :=
  of_values (op := 0xD0) (n := 1) rfl (by decide) rfl (by decide)
theorem popD : Statement .popD :=
  of_values (op := 0xD1) (n := 1) rfl (by decide) rfl (by decide)
theorem jnc (a16 : Word) : Statement (.jnc a16) :=
  of_values (op := 0xD2) (n := 3) rfl (by decide) rfl (by decide)
theorem outPort (p8 : Byte) : Statement (.outPort p8) :=
  of_values (op := 0xD3) (n := 2) rfl (by decide) rfl (by decide)
theorem cnc (a16 : Word) : Statement (.cnc a16) :=
  of_values (op := 0xD4) (n := 3) rfl (by decide) rfl (by decide)
theorem pushD : Statement .pushD :=
  of_values (op := 0xD5) (n := 1) rfl (by decide) rfl (by decide)
theorem sui (d8 : Byte) : Statement (.sui d8) :=
  of_values (op := 0xD6) (n := 2) rfl (by decide) rfl (by decide)
theorem rst2 : Statement .rst2 :=
  of_values (op := 0xD7) (n := 1) rfl (by decide) rfl (by decide)
theorem rc : Statement .rc :=
  of_values (op := 0xD8) (n := 1) rfl (by decide) rfl (by decide)
theorem jc (a16 : Word) : Statement (.jc a16) :=
  of_values (op := 0xDA) (n := 3) rfl (by decide) rfl (by decide)
theorem inPort (p8 : Byte) : Statement (.inPort p8) :=
  of_values (op := 0xDB) (n := 2) rfl (by decide) rfl (by decide)
theorem cc (a16 : Word) : Statement (.cc a16) :=
  of_values (op := 0xDC) (n := 3) rfl (by decide) rfl (by decide)
theorem sbi (d8 : Byte) : Statement (.sbi d8) :=
  of_values (op := 0xDE) (n := 2) rfl (by decide) rfl (by decide)
theorem rst3 : Statement .rst3 :=
  of_values (op := 0xDF) (n := 1) rfl (by decide) rfl (by decide)
theorem rpo : Statement .rpo :=
  of_values (op := 0xE0) (n := 1) rfl (by decide) rfl (by decide)
theorem popH : Statement .popH :=
  of_values (op := 0xE1) (n := 1) rfl (by decide) rfl (by decide)
theorem jpo (a16 : Word) : Statement (.jpo a16) :=
  of_values (op := 0xE2) (n := 3) rfl (by decide) rfl (by decide)
theorem xthl : Statement .xthl :=
  of_values (op := 0xE3) (n := 1) rfl (by decide) rfl (by decide)
theorem cpo (a16 : Word) : Statement (.cpo a16) :=
  of_values (op := 0xE4) (n := 3) rfl (by decide) rfl (by decide)
theorem pushH : Statement .pushH :=
  of_values (op := 0xE5) (n := 1) rfl (by decide) rfl (by decide)
theorem ani (d8 : Byte) : Statement (.ani d8) :=
  of_values (op := 0xE6) (n := 2) rfl (by decide) rfl (by decide)
theorem rst4 : Statement .rst4 :=
  of_values (op := 0xE7) (n := 1) rfl (by decide) rfl (by decide)
theorem rpe : Statement .rpe :=
  of_values (op := 0xE8) (n := 1) rfl (by decide) rfl (by decide)
theorem pchl : Statement .pchl :=
  of_values (op := 0xE9) (n := 1) rfl (by decide) rfl (by decide)
theorem jpe (a16 : Word) : Statement (.jpe a16) :=
  of_values (op := 0xEA) (n := 3) rfl (by decide) rfl (by decide)
theorem xchg : Statement .xchg :=
  of_values (op := 0xEB) (n := 1) rfl (by decide) rfl (by decide)
theorem cpe (a16 : Word) : Statement (.cpe a16) :=
  of_values (op := 0xEC) (n := 3) rfl (by decide) rfl (by decide)
theorem xri (d8 : Byte) : Statement (.xri d8) :=
  of_values (op := 0xEE) (n := 2) rfl (by decide) rfl (by decide)
theorem rst5 : Statement .rst5 :=
  of_values (op := 0xEF) (n := 1) rfl (by decide) rfl (by decide)
theorem rp : Statement .rp :=
  of_values (op := 0xF0) (n := 1) rfl (by decide) rfl (by decide)
theorem popPSW : Statement .popPSW :=
  of_values (op := 0xF1) (n := 1) rfl (by decide) rfl (by decide)
theorem jp (a16 : Word) : Statement (.jp a16) :=
  of_values (op := 0xF2) (n := 3) rfl (by decide) rfl (by decide)
theorem di : Statement .di :=
  of_values (op := 0xF3) (n := 1) rfl (by decide) rfl (by decide)
theorem cp (a16 : Word) : Statement (.cp a16) :=
  of_values (op := 0xF4) (n := 3) rfl (by decide) rfl (by decide)
theorem pushPSW : Statement .pushPSW :=
  of_values (op := 0xF5) (n := 1) rfl (by decide) rfl (by decide)
theorem ori (d8 : Byte) : Statement (.ori d8) :=
  of_values (op := 0xF6) (n := 2) rfl (by decide) rfl (by decide)
theorem rst6 : Statement .rst6 :=
  of_values (op := 0xF7) (n := 1) rfl (by decide) rfl (by decide)
theorem rm : Statement .rm :=
  of_values (op := 0xF8) (n := 1) rfl (by decide) rfl (by decide)
theorem sphl : Statement .sphl :=
  of_values (op := 0xF9) (n := 1) rfl (by decide) rfl (by decide)
theorem jm (a16 : Word) : Statement (.jm a16) :=
  of_values (op := 0xFA) (n := 3) rfl (by decide) rfl (by decide)
theorem ei : Statement .ei :=
  of_values (op := 0xFB) (n := 1) rfl (by decide) rfl (by decide)
theorem cm (a16 : Word) : Statement (.cm a16) :=
  of_values (op := 0xFC) (n := 3) rfl (by decide) rfl (by decide)
theorem cpi (d8 : Byte) : Statement (.cpi d8) :=
  of_values (op := 0xFE) (n := 2) rfl (by decide) rfl (by decide)
theorem rst7 : Statement .rst7 :=
  of_values (op := 0xFF) (n := 1) rfl (by decide) rfl (by decide)

end Sys2Proof.Laws.EncodedForm
end

