-- ==== Sys2Proof/Tests/Slice0.lean ====
section
/-! SUPPORT. The model's own tests. Expected values come from the spec: the encoding tables R59 to R63, the worked examples X1 to
X11 and the vectors V40 to V60 of `spec/95_test_vectors.md` (a step test carries its vector's number). Then one witness for each
obligation that has hypotheses: a concrete state and operands that meet them, clause by clause, at boundary values. -/
namespace Sys2Proof.Tests

open Sys2Proof.Machine Sys2Proof.Safety

/-! ## Helpers -/

/-- `s` with PC at `pc` and the given bytes in memory from there. -/
def placed (pc : Word) (bytes : List Byte) (s : State) : State := { s with pc := pc, mem := Memory.load s.mem pc.toNat bytes }

/-- The step of `s` answers a next state that satisfies `p`. -/
def check (s : State) (p : State → Bool) : Bool :=
  match step s with
  | .next t => p t
  | .fault _ => false
  | .refused _ => false

/-- The bytes decode, all of them, to the instruction. -/
def decodesTo (row : List Byte × Instr) : Bool :=
  match decode [] row.1 with
  | .ok (i, rest) => decide (i = row.2) && rest.isEmpty
  | .error _ => false

/-- The reset state with PC and SP at chosen places. -/
def atPC (pc sp : Word) : State := { State.reset with pc := pc, sp := sp }

/-! ## Well-formedness: each check refuses an ill-formed term -/

theorem test_config_standard_accepted : Config.standard.wellFormed = true := by decide

theorem test_config_mem_size_zero_refused : (Config.ofMemSize 0).wellFormed = false := by decide

theorem test_config_mem_size_above_64K_refused : (Config.ofMemSize 65537).wellFormed = false := by decide

theorem test_config_mem_size_bounds_accepted :
    (Config.ofMemSize 1).wellFormed = true ∧ (Config.ofMemSize 65536).wellFormed = true := by decide

theorem test_config_undef_documented_opcode_refused :
    { Config.standard with undefSet := [0x08, 0x76] }.wellFormed = false
      ∧ { Config.standard with undefSet := aliasOpcodes }.wellFormed = true := by decide

theorem test_config_port_listed_twice_refused :
    { Config.standard with portIn := [(0x10, 0x7E), (0x10, 0x00)] }.wellFormed = false := by decide

theorem test_memory_form_refused :
    Memory.wf [(5, 1), (5, 2)] = false ∧ Memory.wf [(6, 1), (5, 2)] = false ∧ Memory.wf [(5, 0)] = false
      ∧ Memory.wf [(5, 1), (6, 2)] = true := by decide

theorem test_state_cell_outside_memory_refused :
    wellFormed { State.reset with config := Config.ofMemSize 16, mem := [(16, 1)] } = false
      ∧ wellFormed { State.reset with config := Config.ofMemSize 16, mem := [(15, 1)] } = true := by decide

theorem test_state_halted_and_faulted_refused :
    wellFormed { State.reset with halted := true, fault := some (.boundsError 0) } = false := by decide

/-- R261, D3. -/
theorem test_image_too_large_refused : resetWith (Config.ofMemSize 2) [1, 2, 3] = .refused .imageTooLarge := rfl

/-- R24, R261. -/
theorem test_reset_loads_image :
    resetWith (Config.ofMemSize 3) [0x3E, 0x00, 0x76]
      = .next { State.reset with sp := 0x0002, mem := [(0, 0x3E), (2, 0x76)], config := Config.ofMemSize 3 } := rfl

/-! ## Decoding: words written out from R59 to R63, all 256 opcodes -/

def words0a : List (List Byte × Instr) :=
  [([0b00000000], .nop), ([0b00000001, 0x34, 0x12], .lxiB 0x1234), ([0b00000010], .staxB), ([0b00000011], .inxB),
    ([0b00000100], .inrB), ([0b00000101], .dcrB), ([0b00000110, 0xA5], .mviB 0xA5), ([0b00000111], .rlc),
    ([0b00001000], .nop), ([0b00001001], .dadB), ([0b00001010], .ldaxB), ([0b00001011], .dcxB), ([0b00001100], .inrC),
    ([0b00001101], .dcrC), ([0b00001110, 0xA5], .mviC 0xA5), ([0b00001111], .rrc)]

def words0b : List (List Byte × Instr) :=
  [([0b00010000], .nop), ([0b00010001, 0x34, 0x12], .lxiD 0x1234), ([0b00010010], .staxD), ([0b00010011], .inxD),
    ([0b00010100], .inrD), ([0b00010101], .dcrD), ([0b00010110, 0xA5], .mviD 0xA5), ([0b00010111], .ral),
    ([0b00011000], .nop), ([0b00011001], .dadD), ([0b00011010], .ldaxD), ([0b00011011], .dcxD), ([0b00011100], .inrE),
    ([0b00011101], .dcrE), ([0b00011110, 0xA5], .mviE 0xA5), ([0b00011111], .rar)]

def words0c : List (List Byte × Instr) :=
  [([0b00100000], .nop), ([0b00100001, 0x34, 0x12], .lxiH 0x1234), ([0b00100010, 0x34, 0x12], .shld 0x1234),
    ([0b00100011], .inxH), ([0b00100100], .inrH), ([0b00100101], .dcrH), ([0b00100110, 0xA5], .mviH 0xA5),
    ([0b00100111], .daa), ([0b00101000], .nop), ([0b00101001], .dadH), ([0b00101010, 0x34, 0x12], .lhld 0x1234),
    ([0b00101011], .dcxH), ([0b00101100], .inrL), ([0b00101101], .dcrL), ([0b00101110, 0xA5], .mviL 0xA5),
    ([0b00101111], .cma)]

def words0d : List (List Byte × Instr) :=
  [([0b00110000], .nop), ([0b00110001, 0x34, 0x12], .lxiSP 0x1234), ([0b00110010, 0x34, 0x12], .sta 0x1234),
    ([0b00110011], .inxSP), ([0b00110100], .inrM), ([0b00110101], .dcrM), ([0b00110110, 0xA5], .mviM 0xA5),
    ([0b00110111], .stc), ([0b00111000], .nop), ([0b00111001], .dadSP), ([0b00111010, 0x34, 0x12], .lda 0x1234),
    ([0b00111011], .dcxSP), ([0b00111100], .inrA), ([0b00111101], .dcrA), ([0b00111110, 0xA5], .mviA 0xA5),
    ([0b00111111], .cmc)]

def words1a : List (List Byte × Instr) :=
  [([0b01000000], .movBB), ([0b01000001], .movBC), ([0b01000010], .movBD), ([0b01000011], .movBE), ([0b01000100], .movBH),
    ([0b01000101], .movBL), ([0b01000110], .movBM), ([0b01000111], .movBA), ([0b01001000], .movCB), ([0b01001001], .movCC),
    ([0b01001010], .movCD), ([0b01001011], .movCE), ([0b01001100], .movCH), ([0b01001101], .movCL), ([0b01001110], .movCM),
    ([0b01001111], .movCA)]

def words1b : List (List Byte × Instr) :=
  [([0b01010000], .movDB), ([0b01010001], .movDC), ([0b01010010], .movDD), ([0b01010011], .movDE), ([0b01010100], .movDH),
    ([0b01010101], .movDL), ([0b01010110], .movDM), ([0b01010111], .movDA), ([0b01011000], .movEB), ([0b01011001], .movEC),
    ([0b01011010], .movED), ([0b01011011], .movEE), ([0b01011100], .movEH), ([0b01011101], .movEL), ([0b01011110], .movEM),
    ([0b01011111], .movEA)]

def words1c : List (List Byte × Instr) :=
  [([0b01100000], .movHB), ([0b01100001], .movHC), ([0b01100010], .movHD), ([0b01100011], .movHE), ([0b01100100], .movHH),
    ([0b01100101], .movHL), ([0b01100110], .movHM), ([0b01100111], .movHA), ([0b01101000], .movLB), ([0b01101001], .movLC),
    ([0b01101010], .movLD), ([0b01101011], .movLE), ([0b01101100], .movLH), ([0b01101101], .movLL), ([0b01101110], .movLM),
    ([0b01101111], .movLA)]

def words1d : List (List Byte × Instr) :=
  [([0b01110000], .movMB), ([0b01110001], .movMC), ([0b01110010], .movMD), ([0b01110011], .movME), ([0b01110100], .movMH),
    ([0b01110101], .movML), ([0b01110110], .hlt), ([0b01110111], .movMA), ([0b01111000], .movAB), ([0b01111001], .movAC),
    ([0b01111010], .movAD), ([0b01111011], .movAE), ([0b01111100], .movAH), ([0b01111101], .movAL), ([0b01111110], .movAM),
    ([0b01111111], .movAA)]

def words2a : List (List Byte × Instr) :=
  [([0b10000000], .addB), ([0b10000001], .addC), ([0b10000010], .addD), ([0b10000011], .addE), ([0b10000100], .addH),
    ([0b10000101], .addL), ([0b10000110], .addM), ([0b10000111], .addA), ([0b10001000], .adcB), ([0b10001001], .adcC),
    ([0b10001010], .adcD), ([0b10001011], .adcE), ([0b10001100], .adcH), ([0b10001101], .adcL), ([0b10001110], .adcM),
    ([0b10001111], .adcA)]

def words2b : List (List Byte × Instr) :=
  [([0b10010000], .subB), ([0b10010001], .subC), ([0b10010010], .subD), ([0b10010011], .subE), ([0b10010100], .subH),
    ([0b10010101], .subL), ([0b10010110], .subM), ([0b10010111], .subA), ([0b10011000], .sbbB), ([0b10011001], .sbbC),
    ([0b10011010], .sbbD), ([0b10011011], .sbbE), ([0b10011100], .sbbH), ([0b10011101], .sbbL), ([0b10011110], .sbbM),
    ([0b10011111], .sbbA)]

def words2c : List (List Byte × Instr) :=
  [([0b10100000], .anaB), ([0b10100001], .anaC), ([0b10100010], .anaD), ([0b10100011], .anaE), ([0b10100100], .anaH),
    ([0b10100101], .anaL), ([0b10100110], .anaM), ([0b10100111], .anaA), ([0b10101000], .xraB), ([0b10101001], .xraC),
    ([0b10101010], .xraD), ([0b10101011], .xraE), ([0b10101100], .xraH), ([0b10101101], .xraL), ([0b10101110], .xraM),
    ([0b10101111], .xraA)]

def words2d : List (List Byte × Instr) :=
  [([0b10110000], .oraB), ([0b10110001], .oraC), ([0b10110010], .oraD), ([0b10110011], .oraE), ([0b10110100], .oraH),
    ([0b10110101], .oraL), ([0b10110110], .oraM), ([0b10110111], .oraA), ([0b10111000], .cmpB), ([0b10111001], .cmpC),
    ([0b10111010], .cmpD), ([0b10111011], .cmpE), ([0b10111100], .cmpH), ([0b10111101], .cmpL), ([0b10111110], .cmpM),
    ([0b10111111], .cmpA)]

def words3a : List (List Byte × Instr) :=
  [([0b11000000], .rnz), ([0b11000001], .popB), ([0b11000010, 0x34, 0x12], .jnz 0x1234),
    ([0b11000011, 0x34, 0x12], .jmp 0x1234), ([0b11000100, 0x34, 0x12], .cnz 0x1234), ([0b11000101], .pushB),
    ([0b11000110, 0xA5], .adi 0xA5), ([0b11000111], .rst0), ([0b11001000], .rz), ([0b11001001], .ret),
    ([0b11001010, 0x34, 0x12], .jz 0x1234), ([0b11001011, 0x34, 0x12], .jmp 0x1234), ([0b11001100, 0x34, 0x12], .cz 0x1234),
    ([0b11001101, 0x34, 0x12], .call 0x1234), ([0b11001110, 0xA5], .aci 0xA5), ([0b11001111], .rst1)]

def words3b : List (List Byte × Instr) :=
  [([0b11010000], .rnc), ([0b11010001], .popD), ([0b11010010, 0x34, 0x12], .jnc 0x1234), ([0b11010011, 0xA5], .outPort 0xA5),
    ([0b11010100, 0x34, 0x12], .cnc 0x1234), ([0b11010101], .pushD), ([0b11010110, 0xA5], .sui 0xA5), ([0b11010111], .rst2),
    ([0b11011000], .rc), ([0b11011001], .ret), ([0b11011010, 0x34, 0x12], .jc 0x1234), ([0b11011011, 0xA5], .inPort 0xA5),
    ([0b11011100, 0x34, 0x12], .cc 0x1234), ([0b11011101, 0x34, 0x12], .call 0x1234), ([0b11011110, 0xA5], .sbi 0xA5),
    ([0b11011111], .rst3)]

def words3c : List (List Byte × Instr) :=
  [([0b11100000], .rpo), ([0b11100001], .popH), ([0b11100010, 0x34, 0x12], .jpo 0x1234), ([0b11100011], .xthl),
    ([0b11100100, 0x34, 0x12], .cpo 0x1234), ([0b11100101], .pushH), ([0b11100110, 0xA5], .ani 0xA5), ([0b11100111], .rst4),
    ([0b11101000], .rpe), ([0b11101001], .pchl), ([0b11101010, 0x34, 0x12], .jpe 0x1234), ([0b11101011], .xchg),
    ([0b11101100, 0x34, 0x12], .cpe 0x1234), ([0b11101101, 0x34, 0x12], .call 0x1234), ([0b11101110, 0xA5], .xri 0xA5),
    ([0b11101111], .rst5)]

def words3d : List (List Byte × Instr) :=
  [([0b11110000], .rp), ([0b11110001], .popPSW), ([0b11110010, 0x34, 0x12], .jp 0x1234), ([0b11110011], .di),
    ([0b11110100, 0x34, 0x12], .cp 0x1234), ([0b11110101], .pushPSW), ([0b11110110, 0xA5], .ori 0xA5), ([0b11110111], .rst6),
    ([0b11111000], .rm), ([0b11111001], .sphl), ([0b11111010, 0x34, 0x12], .jm 0x1234), ([0b11111011], .ei),
    ([0b11111100, 0x34, 0x12], .cm 0x1234), ([0b11111101, 0x34, 0x12], .call 0x1234), ([0b11111110, 0xA5], .cpi 0xA5),
    ([0b11111111], .rst7)]

/-- Quadrant 0 (R59), its 64 opcodes in order. -/
theorem test_decode_quadrant_0 : (words0a ++ words0b ++ words0c ++ words0d).all decodesTo = true := by decide

/-- Quadrant 1 (R60), its 64 opcodes in order. -/
theorem test_decode_quadrant_1 : (words1a ++ words1b ++ words1c ++ words1d).all decodesTo = true := by decide

/-- Quadrant 2 (R61), its 64 opcodes in order. -/
theorem test_decode_quadrant_2 : (words2a ++ words2b ++ words2c ++ words2d).all decodesTo = true := by decide

/-- Quadrant 3 (R62), its 64 opcodes in order. -/
theorem test_decode_quadrant_3 : (words3a ++ words3b ++ words3c ++ words3d).all decodesTo = true := by decide
/-- R64, R233: an opcode of UNDEF_SET is rejected by name before its operand bytes; a cut-off instruction is rejected by name. -/
theorem test_decode_rejects :
    decode [0xCB] [0xCB] = .error (.undefinedOpcode 0xCB) ∧ decode [] [0xCB, 0x00] = .error (.operandMissing 0xCB)
      ∧ decode [] [] = .error .noByte := ⟨rfl, rfl, rfl⟩

/-- R50, X1: 208 opcodes of length 1, 18 of length 2, 30 of length 3. -/
theorem test_length_counts :
    [1, 2, 3].map (fun n => ((List.range 256).filter (fun k => opcodeLength (BitVec.ofNat 8 k) == n)).length)
      = [208, 18, 30] := by decide +kernel

/-- R57: operand words are little-endian. -/
theorem test_encode_little_endian :
    encode (.jmp 0x1234) = [0xC3, 0x34, 0x12] ∧ encode (.mviA 0x05) = [0x3E, 0x05] ∧ encode .hlt = [0x76] := by decide

theorem test_decode_table_word :
    decodeTableWord 8 0x78 = some .movAB ∧ decodeTableWord 8 0x21 = some (.lxiH 0x0000)
      ∧ decodeTableWord 24 0x123421 = some (.lxiH 0x1234) ∧ decodeTableWord 16 0x7E05DB = some (.inPort 0x05) := by decide

/-- The word placed where step fetches is what step runs: X8, its first step. -/
theorem test_with_fetch_word :
    check (State.reset.withFetchWord 16 0x053E) (fun t => t.regs.A == 0x05 && t.pc == 0x0002) = true := by decide

/-- R66, X10: `$1234` for the operand bytes 34 12, `#$05` for 05. -/
theorem test_operand_text :
    addressText (joinBytes 0x12 0x34) = .address [1, 2, 3, 4] ∧ immediateText 0x05 = .immediate [0, 5] := by decide

/-- R231. -/
theorem test_fault_codes :
    faultCode none = 0 ∧ faultCode (some (.decodeError 0 8)) = 1 ∧ faultCode (some (.boundsError (-1))) = 2 := by decide

/-- R20, D20. -/
theorem test_step_after_halt_refused : step { State.reset with halted := true } = .refused .stepAfterHalt := rfl

/-- X8, program P0: `3E 05 76` leaves A = 5, HALTED, PC at the HLT. -/
theorem test_X8_run_to_halt :
    runToHalt 2 (placed 0x0000 [0x3E, 0x05, 0x76] State.reset) =
      .next { placed 0x0000 [0x3E, 0x05, 0x76] State.reset with
        regs := { Regs.zero with A := 0x05 }, pc := 0x0002, halted := true } := rfl

/-! ## One step each: the vectors of `spec/95_test_vectors.md` -/

theorem test_V40_1_mov_a_b :
    check (placed 0x0000 [0x78] { State.reset with regs := { Regs.zero with B := 0x12 } })
      (fun t => t.regs.A == 0x12 && t.pc == 0x0001) = true := by decide

theorem test_V40_5_mov_h_m :
    check (placed 0x0000 [0x66] { State.reset with regs := { Regs.zero with H := 0x20, L := 0x10 }, mem := [(0x2010, 0x30)] })
      (fun t => t.regs.H == 0x30 && t.pc == 0x0001) = true := by decide

theorem test_V40_8_mov_m_h :
    check (placed 0x0000 [0x74] { State.reset with regs := { Regs.zero with H := 0x30 } })
      (fun t => t.mem.get 0x3000 == 0x30 && t.pc == 0x0001) = true := by decide

theorem test_V40_9_mov_m_a :
    check (placed 0x0000 [0x77] { State.reset with regs := { Regs.zero with A := 0x76, L := 0x01 } })
      (fun t => t.mem.get 0x0001 == 0x76 && t.pc == 0x0001) = true := by decide

theorem test_V40_11_mvi_m_ff :
    check (placed 0x0000 [0x36, 0xFF] { State.reset with regs := { Regs.zero with H := 0x40 } })
      (fun t => t.mem.get 0x4000 == 0xFF && t.pc == 0x0002) = true := by decide

theorem test_V40_12_lxi_h_1234 :
    check (placed 0x0000 [0x21, 0x34, 0x12] State.reset)
      (fun t => t.regs.H == 0x12 && t.regs.L == 0x34) = true := by decide

theorem test_V40_13_lxi_sp_2400 :
    check (placed 0x0000 [0x31, 0x00, 0x24] State.reset)
      (fun t => t.sp == 0x2400 && t.pc == 0x0003) = true := by decide

theorem test_V40_15_xchg :
    check (placed 0x0000 [0xEB] { State.reset with regs := { Regs.zero with D := 0x11, E := 0x22, H := 0x33, L := 0x44 } })
      (fun t => t.regs.D == 0x33 && t.regs.E == 0x44) = true := by decide

theorem test_V40_17_mvi_m_01 :
    check (placed 0x0000 [0x36, 0x01]
      { State.reset with regs := { Regs.zero with H := 0xFF, L := 0xFF }, config := { Config.standard with memSize := 0x1000 } })
      (fun t => t.fault == some (.boundsError 0xFFFF)) = true := by decide

theorem test_V41_1_add_b :
    check (placed 0x0000 [0x80] { State.reset with regs := { Regs.zero with A := 0xFF, B := 0x01 } })
      (fun t => t.regs.A == 0x00 &&
        t.flags == { Z := true, S := false, P := true, CY := true, AC := true }) = true := by decide

theorem test_V41_3_add_m :
    check (placed 0x0000 [0x86] { State.reset with regs := { Regs.zero with A := 0x10, H := 0x20 }, mem := [(0x2000, 0x22)] })
      (fun t => t.regs.A == 0x32 &&
        t.flags == { Z := false, S := false, P := false, CY := false, AC := false }) = true := by decide

theorem test_V41_6_adc_c :
    check (placed 0x0000 [0x89]
      { State.reset with regs := { Regs.zero with A := 0x3D, C := 0x42 }, flags := { Flags.zero with CY := true } })
      (fun t => t.regs.A == 0x80 &&
        t.flags == { Z := false, S := true, P := false, CY := false, AC := true }) = true := by decide

theorem test_V41_7_adc_b :
    check (placed 0x0000 [0x88]
      { State.reset with regs := { Regs.zero with A := 0xFF, B := 0xFF }, flags := { Flags.zero with CY := true } })
      (fun t => t.flags == { Z := false, S := true, P := true, CY := true, AC := true } && t.pc == 0x0001) = true := by decide

theorem test_V41_8_adc_m :
    check (placed 0x0000 [0x8E]
      { State.reset with regs := { Regs.zero with H := 0x20 }, flags := { Flags.zero with CY := true } })
      (fun t => t.regs.A == 0x01 &&
        t.flags == { Z := false, S := false, P := false, CY := false, AC := false }) = true := by decide

theorem test_V41_9_sub_b :
    check (placed 0x0000 [0x90] { State.reset with regs := { Regs.zero with B := 0x01 } })
      (fun t => t.regs.A == 0xFF &&
        t.flags == { Z := false, S := true, P := true, CY := true, AC := false }) = true := by decide

theorem test_V41_11_sub_m :
    check (placed 0x0000 [0x96] { State.reset with regs := { Regs.zero with A := 0x3E, H := 0x20 }, mem := [(0x2000, 0x3E)] })
      (fun t => t.regs.A == 0x00 &&
        t.flags == { Z := true, S := false, P := true, CY := false, AC := true }) = true := by decide

theorem test_V41_13_sbb_l :
    check (placed 0x0000 [0x9D]
      { State.reset with regs := { Regs.zero with A := 0x04, L := 0x02 }, flags := { Flags.zero with CY := true } })
      (fun t => t.regs.A == 0x01 &&
        t.flags == { Z := false, S := false, P := false, CY := false, AC := true }) = true := by decide

theorem test_V41_15_sbb_b :
    check (placed 0x0000 [0x98]
      { State.reset with regs := { Regs.zero with A := 0x33, B := 0xFF }, flags := { Flags.zero with CY := true } })
      (fun t => t.flags == { Z := false, S := false, P := true, CY := true, AC := false } &&
        t.pc == 0x0001) = true := by decide

theorem test_V41_16_sbb_m :
    check (placed 0x0000 [0x9E]
      { State.reset with regs := { Regs.zero with H := 0x20 }, flags := { Flags.zero with CY := true } })
      (fun t => t.regs.A == 0xFF &&
        t.flags == { Z := false, S := true, P := true, CY := true, AC := false }) = true := by decide

theorem test_V41_17_adi_42 :
    check (placed 0x0000 [0xC6, 0x42] { State.reset with regs := { Regs.zero with A := 0x14 } })
      (fun t => t.regs.A == 0x56 &&
        t.flags == { Z := false, S := false, P := true, CY := false, AC := false }) = true := by decide

theorem test_V41_18_aci_be :
    check (placed 0x0000 [0xCE, 0xBE]
      { State.reset with regs := { Regs.zero with A := 0x56 }, flags := { Flags.zero with CY := true } })
      (fun t => t.regs.A == 0x15 &&
        t.flags == { Z := false, S := false, P := false, CY := true, AC := true }) = true := by decide

theorem test_V41_19_sui_01 :
    check (placed 0x0000 [0xD6, 0x01] State.reset)
      (fun t => t.regs.A == 0xFF &&
        t.flags == { Z := false, S := true, P := true, CY := true, AC := false }) = true := by decide

theorem test_V41_19b_sbi_01 :
    check (placed 0x0000 [0xDE, 0x01] { State.reset with flags := { Flags.zero with CY := true } })
      (fun t => t.regs.A == 0xFE &&
        t.flags == { Z := false, S := true, P := false, CY := true, AC := false }) = true := by decide

theorem test_V41_21_inr_b :
    check (placed 0x0000 [0x04]
      { State.reset with regs := { Regs.zero with B := 0xFF }, flags := { Flags.zero with CY := true } })
      (fun t => t.regs.B == 0x00 &&
        t.flags == { Z := true, S := false, P := true, CY := true, AC := true }) = true := by decide

theorem test_V41_23_inr_m :
    check (placed 0x0000 [0x34] { State.reset with regs := { Regs.zero with H := 0x20 }, mem := [(0x2000, 0x0F)] })
      (fun t => t.flags == { Z := false, S := false, P := false, CY := false, AC := true } &&
        t.mem.get 0x2000 == 0x10) = true := by decide

theorem test_V41_25_dcr_c :
    check (placed 0x0000 [0x0D] { State.reset with flags := { Flags.zero with CY := true } })
      (fun t => t.regs.C == 0xFF &&
        t.flags == { Z := false, S := true, P := true, CY := true, AC := false }) = true := by decide

theorem test_V41_26_dcr_m :
    check (placed 0x0000 [0x35] { State.reset with regs := { Regs.zero with H := 0x20 }, mem := [(0x2000, 0x80)] })
      (fun t => t.flags == { Z := false, S := false, P := false, CY := false, AC := false } &&
        t.mem.get 0x2000 == 0x7F) = true := by decide

theorem test_V41_27_inx_d :
    check (placed 0x0000 [0x13] { State.reset with regs := { Regs.zero with D := 0x38, E := 0xFF } })
      (fun t => t.regs.D == 0x39 && t.regs.E == 0x00) = true := by decide

theorem test_V41_28_inx_sp :
    check (placed 0x0000 [0x33] State.reset)
      (fun t => t.flags == { Z := false, S := false, P := false, CY := false, AC := false } &&
        t.sp == 0x0000) = true := by decide

theorem test_V41_29_dcx_h :
    check (placed 0x0000 [0x2B] State.reset)
      (fun t => t.regs.H == 0xFF &&
        t.regs.L == 0xFF && t.flags == { Z := false, S := false, P := false, CY := false, AC := false }) = true := by decide

theorem test_V41_31_dad_h :
    check (placed 0x0000 [0x29]
      { State.reset with regs := { Regs.zero with H := 0x80, L := 0x01 }, flags := { Flags.zero with Z := true, AC := true } })
      (fun t => t.regs.H == 0x00 &&
        t.regs.L == 0x02 && t.flags == { Z := true, S := false, P := false, CY := true, AC := true }) = true := by decide

theorem test_V41_32_dad_sp :
    check (placed 0x0000 [0x39]
      { State.reset with regs := { Regs.zero with L := 0x02 }, flags := { Flags.zero with CY := true }, sp := 0x2400 })
      (fun t => t.regs.H == 0x24 &&
        t.flags == { Z := false, S := false, P := false, CY := false, AC := false }) = true := by decide

theorem test_V42_1_ana_c :
    check (placed 0x0000 [0xA1]
      { State.reset with regs := { Regs.zero with A := 0xFC, C := 0x0F }, flags := { Flags.zero with CY := true, AC := true } })
      (fun t => t.regs.A == 0x0C &&
        t.flags == { Z := false, S := false, P := true, CY := false, AC := false }) = true := by decide

theorem test_V42_3_ana_m :
    check (placed 0x0000 [0xA6] { State.reset with regs := { Regs.zero with A := 0xF0, H := 0x20 }, mem := [(0x2000, 0x0F)] })
      (fun t => t.regs.A == 0x00 &&
        t.flags == { Z := true, S := false, P := true, CY := false, AC := false }) = true := by decide

theorem test_V42_4_xra_b :
    check (placed 0x0000 [0xA8] { State.reset with regs := { Regs.zero with A := 0xFF, B := 0x0F } })
      (fun t => t.regs.A == 0xF0 &&
        t.flags == { Z := false, S := true, P := true, CY := false, AC := false }) = true := by decide

theorem test_V42_6_xra_m :
    check (placed 0x0000 [0xAE] { State.reset with regs := { Regs.zero with A := 0x5C, H := 0x20 }, mem := [(0x2000, 0x78)] })
      (fun t => t.regs.A == 0x24 &&
        t.flags == { Z := false, S := false, P := true, CY := false, AC := false }) = true := by decide

theorem test_V42_7_ora_c :
    check (placed 0x0000 [0xB1] { State.reset with regs := { Regs.zero with A := 0x33, C := 0x0F } })
      (fun t => t.regs.A == 0x3F &&
        t.flags == { Z := false, S := false, P := true, CY := false, AC := false }) = true := by decide

theorem test_V42_8_ora_m :
    check (placed 0x0000 [0xB6] { State.reset with regs := { Regs.zero with H := 0x20 }, mem := [(0x2000, 0x80)] })
      (fun t => t.regs.A == 0x80 &&
        t.flags == { Z := false, S := true, P := false, CY := false, AC := false }) = true := by decide

theorem test_V42_11_cmp_e :
    check (placed 0x0000 [0xBB] { State.reset with regs := { Regs.zero with A := 0x02, E := 0x05 } })
      (fun t => t.regs.A == 0x02 &&
        t.flags == { Z := false, S := true, P := false, CY := true, AC := false }) = true := by decide

theorem test_V42_13_cmp_b :
    check (placed 0x0000 [0xB8] { State.reset with regs := { Regs.zero with A := 0xE5, B := 0x1B } })
      (fun t => t.regs.A == 0xE5 &&
        t.flags == { Z := false, S := true, P := true, CY := false, AC := false }) = true := by decide

theorem test_V42_15_cmp_m :
    check (placed 0x0000 [0xBE] { State.reset with regs := { Regs.zero with A := 0x40, H := 0x20 }, mem := [(0x2000, 0x40)] })
      (fun t => t.regs.A == 0x40 &&
        t.flags == { Z := true, S := false, P := true, CY := false, AC := true }) = true := by decide

theorem test_V42_16_ani_0f :
    check (placed 0x0000 [0xE6, 0x0F]
      { State.reset with regs := { Regs.zero with A := 0x3A }, flags := { Flags.zero with CY := true } })
      (fun t => t.regs.A == 0x0A &&
        t.flags == { Z := false, S := false, P := true, CY := false, AC := false }) = true := by decide

theorem test_V42_17_xri_81 :
    check (placed 0x0000 [0xEE, 0x81] { State.reset with regs := { Regs.zero with A := 0x3B } })
      (fun t => t.regs.A == 0xBA &&
        t.flags == { Z := false, S := true, P := false, CY := false, AC := false }) = true := by decide

theorem test_V42_18_ori_0f :
    check (placed 0x0000 [0xF6, 0x0F] { State.reset with regs := { Regs.zero with A := 0xB5 } })
      (fun t => t.regs.A == 0xBF &&
        t.flags == { Z := false, S := true, P := false, CY := false, AC := false }) = true := by decide

theorem test_V42_21_cpi_ff :
    check (placed 0x0000 [0xFE, 0xFF] State.reset)
      (fun t => t.regs.A == 0x00 &&
        t.flags == { Z := false, S := false, P := false, CY := true, AC := false }) = true := by decide

theorem test_V43_1_rlc :
    check (placed 0x0000 [0x07] { State.reset with regs := { Regs.zero with A := 0xF2 } })
      (fun t => t.regs.A == 0xE5 &&
        t.flags == { Z := false, S := false, P := false, CY := true, AC := false }) = true := by decide

theorem test_V43_3_rrc :
    check (placed 0x0000 [0x0F]
      { State.reset with regs := { Regs.zero with A := 0xF2 }, flags := { Flags.zero with CY := true } })
      (fun t => t.regs.A == 0x79 &&
        t.flags == { Z := false, S := false, P := false, CY := false, AC := false }) = true := by decide

theorem test_V43_6_ral :
    check (placed 0x0000 [0x17] { State.reset with flags := { Flags.zero with CY := true } })
      (fun t => t.regs.A == 0x01 &&
        t.flags == { Z := false, S := false, P := false, CY := false, AC := false }) = true := by decide

theorem test_V43_8_rar :
    check (placed 0x0000 [0x1F]
      { State.reset with regs := { Regs.zero with A := 0x6A }, flags := { Flags.zero with CY := true } })
      (fun t => t.regs.A == 0xB5 &&
        t.flags == { Z := false, S := false, P := false, CY := false, AC := false }) = true := by decide

theorem test_V44_1_jmp_1234 :
    check (placed 0x0000 [0xC3, 0x34, 0x12] State.reset)
      (fun t => t.pc == 0x1234) = true := by decide

theorem test_V44_3_jz_2000 :
    check (placed 0x0010 [0xCA, 0x00, 0x20] { State.reset with flags := { Flags.zero with Z := true } })
      (fun t => t.pc == 0x2000) = true := by decide

theorem test_V44_5b_jm_0040 :
    check (placed 0x0000 [0xFA, 0x40, 0x00] State.reset)
      (fun t => t.pc == 0x0003) = true := by decide

theorem test_V44_7_pchl :
    check (placed 0x0000 [0xE9] { State.reset with regs := { Regs.zero with H := 0x41, L := 0x3E } })
      (fun t => t.pc == 0x413E) = true := by decide

theorem test_V44_8_call_2000 :
    check (placed 0x0100 [0xCD, 0x00, 0x20] { State.reset with sp := 0x2400 })
      (fun t => t.sp == 0x23FE && t.mem.get 0x23FE == 0x03 && t.mem.get 0x23FF == 0x01) = true := by decide

theorem test_V44_10_cc_2000 :
    check (placed 0x0100 [0xDC, 0x00, 0x20] { State.reset with sp := 0x2400 })
      (fun t => t.pc == 0x0103) = true := by decide

theorem test_V44_11_cnz_2000 :
    check (placed 0x0100 [0xC4, 0x00, 0x20] { State.reset with sp := 0x2400 })
      (fun t => t.sp == 0x23FE && t.mem.get 0x23FE == 0x03 && t.mem.get 0x23FF == 0x01) = true := by decide

theorem test_V44_12_ret :
    check (placed 0x2000 [0xC9] { State.reset with sp := 0x23FE, mem := [(0x23FE, 0x03), (0x23FF, 0x01)] })
      (fun t => t.sp == 0x2400 && t.pc == 0x0103) = true := by decide

theorem test_V44_14_rm :
    check (placed 0x2000 [0xF8]
      { State.reset with flags := { Flags.zero with S := true }, sp := 0x23FE, mem := [(0x23FE, 0x03), (0x23FF, 0x01)] })
      (fun t => t.sp == 0x2400 && t.pc == 0x0103) = true := by decide

theorem test_V44_15_rm :
    check (placed 0x2000 [0xF8] { State.reset with sp := 0x23FE, mem := [(0x23FE, 0x03), (0x23FF, 0x01)] })
      (fun t => t.pc == 0x2001) = true := by decide

theorem test_V44_17_rst_3 :
    check (placed 0x0200 [0xDF] { State.reset with sp := 0x2400 })
      (fun t => t.sp == 0x23FE && t.mem.get 0x23FE == 0x01 && t.mem.get 0x23FF == 0x02) = true := by decide

theorem test_V44_21_push_h :
    check (placed 0x0000 [0xE5] { State.reset with regs := { Regs.zero with H := 0xBE, L := 0xEF } })
      (fun t => t.sp == 0xFFFD && t.mem.get 0xFFFD == 0xEF && t.mem.get 0xFFFE == 0xBE) = true := by decide

theorem test_V44_22_push_psw :
    check (placed 0x0000 [0xF5]
      { State.reset with regs := { Regs.zero with A := 0x1F }, flags := { Flags.zero with Z := true, P := true, CY := true }, sp := 0x2400 })
      (fun t => t.sp == 0x23FE && t.mem.get 0x23FE == 0x47 && t.mem.get 0x23FF == 0x1F) = true := by decide

theorem test_V44_24_pop_h :
    check (placed 0x0000 [0xE1] { State.reset with sp := 0x1239, mem := [(0x1239, 0x3D), (0x123A, 0x93)] })
      (fun t => t.regs.H == 0x93 && t.regs.L == 0x3D) = true := by decide

theorem test_V44_25_pop_psw :
    check (placed 0x0000 [0xF1] { State.reset with sp := 0x2C00, mem := [(0x2C00, 0xC3), (0x2C01, 0xFF)] })
      (fun t => t.regs.A == 0xFF &&
        t.flags == { Z := true, S := true, P := false, CY := true, AC := false }) = true := by decide

theorem test_V44_28_xthl :
    check (placed 0x0000 [0xE3]
      { State.reset with regs := { Regs.zero with H := 0x0B, L := 0x3C }, sp := 0x10AD, mem := [(0x10AD, 0xF0), (0x10AE, 0x0D)] })
      (fun t => t.regs.H == 0x0D &&
        t.regs.L == 0xF0 && t.mem.get 0x10AD == 0x3C && t.mem.get 0x10AE == 0x0B) = true := by decide

theorem test_V44_29_sphl :
    check (placed 0x0000 [0xF9] { State.reset with regs := { Regs.zero with H := 0x50, L := 0x6C } })
      (fun t => t.sp == 0x506C && t.pc == 0x0001) = true := by decide

theorem test_V45_1_nop :
    check (placed 0x0005 [0x00] State.reset)
      (fun t => t.pc == 0x0006) = true := by decide

theorem test_V45_3_stc :
    check (placed 0x0000 [0x37] State.reset)
      (fun t => t.flags == { Z := false, S := false, P := false, CY := true, AC := false } &&
        t.pc == 0x0001) = true := by decide

theorem test_V45_5_cmc :
    check (placed 0x0000 [0x3F] { State.reset with flags := { Flags.zero with CY := true } })
      (fun t => t.flags == { Z := false, S := false, P := false, CY := false, AC := false } &&
        t.pc == 0x0001) = true := by decide

theorem test_V45_7_cma :
    check (placed 0x0000 [0x2F] { State.reset with regs := { Regs.zero with A := 0x51 } })
      (fun t => t.regs.A == 0xAE &&
        t.flags == { Z := false, S := false, P := false, CY := false, AC := false }) = true := by decide

theorem test_V45_9_daa :
    check (placed 0x0000 [0x27] { State.reset with regs := { Regs.zero with A := 0x9B } })
      (fun t => t.regs.A == 0x01 &&
        t.flags == { Z := false, S := false, P := false, CY := true, AC := true }) = true := by decide

theorem test_V45_14_daa :
    check (placed 0x0000 [0x27]
      { State.reset with regs := { Regs.zero with A := 0x32 }, flags := { Flags.zero with CY := true, AC := true } })
      (fun t => t.regs.A == 0x98 &&
        t.flags == { Z := false, S := true, P := false, CY := true, AC := false }) = true := by decide

theorem test_V45_17_ei :
    check (placed 0x0000 [0xFB] State.reset)
      (fun t => t.inte == true && t.pc == 0x0001) = true := by decide

theorem test_V45_19_di :
    check (placed 0x0000 [0xF3] { State.reset with inte := true })
      (fun t => t.inte == false && t.pc == 0x0001) = true := by decide

theorem test_V45_21_hlt :
    check (placed 0x0002 [0x76]
      { State.reset with regs := { Regs.zero with A := 0x05, H := 0x90 }, config := { Config.standard with memSize := 0x8000 } })
      (fun t => stepResult t == .halt && t.pc == 0x0002) = true := by decide

theorem test_V46_1_stax_b :
    check (placed 0x0000 [0x02] { State.reset with regs := { Regs.zero with A := 0x7A, B := 0x3F, C := 0x16 } })
      (fun t => t.mem.get 0x3F16 == 0x7A && t.pc == 0x0001) = true := by decide

theorem test_V46_2_stax_d :
    check (placed 0x0000 [0x12] { State.reset with regs := { Regs.zero with A := 0x7A, D := 0x3F, E := 0x16 } })
      (fun t => t.mem.get 0x3F16 == 0x7A && t.pc == 0x0001) = true := by decide

theorem test_V46_3_ldax_b :
    check (placed 0x0000 [0x0A] { State.reset with regs := { Regs.zero with B := 0x93, C := 0x8B }, mem := [(0x938B, 0x42)] })
      (fun t => t.regs.A == 0x42 && t.pc == 0x0001) = true := by decide

theorem test_V46_4_ldax_d :
    check (placed 0x0000 [0x1A] { State.reset with regs := { Regs.zero with D := 0x93, E := 0x8B }, mem := [(0x938B, 0x42)] })
      (fun t => t.regs.A == 0x42 && t.pc == 0x0001) = true := by decide

theorem test_V46_5_sta_05b3 :
    check (placed 0x0000 [0x32, 0xB3, 0x05] { State.reset with regs := { Regs.zero with A := 0x99 } })
      (fun t => t.mem.get 0x05B3 == 0x99 && t.pc == 0x0003) = true := by decide

theorem test_V46_6_lda_0300 :
    check (placed 0x0000 [0x3A, 0x00, 0x03] { State.reset with mem := [(0x0300, 0x6C)] })
      (fun t => t.regs.A == 0x6C && t.pc == 0x0003) = true := by decide

theorem test_V46_8_shld_010a :
    check (placed 0x0000 [0x22, 0x0A, 0x01] { State.reset with regs := { Regs.zero with H := 0xAE, L := 0x29 } })
      (fun t => t.mem.get 0x010A == 0x29 && t.mem.get 0x010B == 0xAE) = true := by decide

theorem test_V46_9_lhld_025b :
    check (placed 0x0000 [0x2A, 0x5B, 0x02] { State.reset with mem := [(0x025B, 0xFF), (0x025C, 0x03)] })
      (fun t => t.regs.H == 0x03 && t.regs.L == 0xFF) = true := by decide

theorem test_V46_10_shld_ffff :
    check (placed 0x0000 [0x22, 0xFF, 0xFF] { State.reset with regs := { Regs.zero with H := 0xAE, L := 0x29 } })
      (fun t => t.fault == some (.boundsError 0x10000)) = true := by decide

theorem test_V46_14_in_10 :
    check (placed 0x0000 [0xDB, 0x10]
      { State.reset with regs := { Regs.zero with A := 0x55 }, config := { Config.standard with portIn := [(0x10, 0x7E)] } })
      (fun t => t.regs.A == 0x7E && t.pc == 0x0002) = true := by decide

theorem test_V46_15_in_11 :
    check (placed 0x0000 [0xDB, 0x11]
      { State.reset with regs := { Regs.zero with A := 0x55 }, config := { Config.standard with portIn := [(0x10, 0x7E)] } })
      (fun t => t.regs.A == 0x55 && t.pc == 0x0002) = true := by decide

theorem test_V46_16_out_01 :
    check (placed 0x0000 [0xD3, 0x01] { State.reset with regs := { Regs.zero with A := 0x41 } })
      (fun t => t.portOut == [(0x01, 0x41)] && t.pc == 0x0002) = true := by decide

theorem test_V60_1_undefined_0x08 :
    check (placed 0x0000 [0x08]
      { State.reset with regs := { Regs.zero with A := 0x11 }, config := { Config.standard with undefSet := [0x08] } })
      (fun t => stepResult t == .fault (.decodeError 0x0 0x8)) = true := by decide

theorem test_V60_2_nop_alias_0x08 :
    check (placed 0x0000 [0x08] { State.reset with regs := { Regs.zero with A := 0x11 } })
      (fun t => t.pc == 0x0001) = true := by decide

theorem test_V60_3_undefined_0xcb :
    check (placed 0xFFFF [0xCB] { State.reset with config := { Config.standard with undefSet := [0xCB] } })
      (fun t => stepResult t == .fault (.decodeError 0xFFFF 0xCB)) = true := by decide

theorem test_V60_5_fetch :
    check (placed 0x8000 [] { State.reset with config := { Config.standard with memSize := 0x8000 } })
      (fun t => t.fault == some (.boundsError 0x8000)) = true := by decide

theorem test_V60_7_nop :
    check (placed 0xFFFF [0x00] State.reset)
      (fun t => t.fault == some (.boundsError 0x10000)) = true := by decide

theorem test_V60_8_nop :
    check (placed 0x7FFF [0x00] { State.reset with config := { Config.standard with memSize := 0x8000 } })
      (fun t => t.pc == 0x8000) = true := by decide

theorem test_V60_10_jmp_0000 :
    check (placed 0xFFFD [0xC3, 0x00, 0x00] State.reset)
      (fun t => t.pc == 0x0000) = true := by decide

theorem test_V60_12_call_0000 :
    check (placed 0xFFFD [0xCD, 0x00, 0x00] { State.reset with sp := 0x2400 })
      (fun t => t.fault == some (.boundsError 0x10000)) = true := by decide

theorem test_V60_15_push_b :
    check (placed 0x0010 [0xC5] { State.reset with sp := 0x0001 })
      (fun t => t.fault == some (.boundsError (-1))) = true := by decide

theorem test_V60_17_push_b :
    check (placed 0x0010 [0xC5] { State.reset with regs := { Regs.zero with B := 0xAA, C := 0xBB }, sp := 0x0002 })
      (fun t => t.sp == 0x0000 && t.mem.get 0x0000 == 0xBB && t.mem.get 0x0001 == 0xAA) = true := by decide

theorem test_V60_19_pop_b :
    check (placed 0x0000 [0xC1] { State.reset with sp := 0xFFFE, mem := [(0xFFFE, 0x34), (0xFFFF, 0x12)] })
      (fun t => t.fault == some (.boundsError 0x10000)) = true := by decide

theorem test_V60_22_xthl :
    check (placed 0x0000 [0xE3] { State.reset with regs := { Regs.zero with H := 0x12, L := 0x34 } })
      (fun t => t.fault == some (.boundsError 0x10000)) = true := by decide

theorem test_V60_24_call_0040 :
    check (placed 0x0000 [0xCD, 0x40, 0x00]
      { State.reset with sp := 0x8000, config := { Config.standard with memSize := 0x8000 } })
      (fun t => t.sp == 0x7FFE && t.mem.get 0x7FFE == 0x03) = true := by decide

theorem test_V60_27_cz_0040 :
    check (placed 0x0000 [0xCC, 0x40, 0x00] { State.reset with sp := 0x0000 })
      (fun t => t.pc == 0x0003) = true := by decide

/-! ## Witnesses: the hypotheses of each obligation can be met -/

theorem witness_DecodeOfEncodeIsInstruction : ∀ op ∈ [0x08, 0xFD], op ∈ aliasOpcodes := by decide

theorem witness_EncodeOfDecodeIsBytes :
    (0xC3 : Byte) ∉ aliasOpcodes ∧ decode [0x08] (0xC3 :: [0xFF, 0xFF, 0x00]) = .ok (.jmp 0xFFFF, [0x00]) := ⟨by decide, rfl⟩

/-- The first and the last address; -1 and the first address past memory. -/
theorem witness_ByteAccessIsBounded :
    ((0 : Int) ≤ 0 ∧ (0 : Int) < State.reset.config.memSize) ∧ ((0 : Int) ≤ 0xFFFF ∧ (0xFFFF : Int) < State.reset.config.memSize)
      ∧ ((-1 : Int) < 0) ∧ ((State.reset.config.memSize : Int) ≤ 0x10000) := by decide

/-- Two bytes that end at the last address, that begin at it, and that begin outside memory. -/
theorem witness_TwoByteAccessIsLittleEndian :
    ((0 : Int) ≤ 0xFFFE ∧ (0xFFFE : Int) + 1 < State.reset.config.memSize)
      ∧ ((-1 : Int) < 0 ∨ (State.reset.config.memSize : Int) ≤ -1) ∧ ((State.reset.config.memSize : Int) ≤ 0x10000)
      ∧ ((0 : Int) ≤ 0xFFFF ∧ (0xFFFF : Int) + 1 = State.reset.config.memSize) := by decide

theorem witness_MemoryReadsWhatWasWritten :
    (Memory.wf [(0, 1), (7, 2)] = true ∧ (0 : Nat) ≠ 7)
      ∧ (Memory.wf [(3, 9)] = true ∧ Memory.wf (Memory.set [] 3 9) = true
        ∧ ∀ a : Nat, Memory.get [(3, 9)] a = Memory.get (Memory.set [] 3 9) a) :=
  ⟨by decide, by decide, by decide, fun _ => rfl⟩

/-- Push with SP 0, 1 and 2. -/
theorem witness_PushPrimitive :
    (atPC 0 0).inMemory (addrOf (atPC 0 0).sp - 1) = false
      ∧ ((atPC 0 1).inMemory (addrOf (atPC 0 1).sp - 1) = true ∧ addrOf (atPC 0 1).sp - 2 < 0)
      ∧ ((atPC 0 2).inMemory (addrOf (atPC 0 2).sp - 1) = true ∧ 0 ≤ addrOf (atPC 0 2).sp - 2) := by decide

/-- A 16-byte memory with SP past it. -/
def small (sp : Word) : State := { State.reset with config := Config.ofMemSize 16, sp := sp }

/-- Pop with SP outside memory, at its last byte, at 0xFFFE and at 0xFFFD. -/
theorem witness_PopPrimitive :
    (small 16).inMemory (addrOf (small 16).sp) = false
      ∧ ((small 15).inMemory (addrOf (small 15).sp) = true ∧ (small 15).inMemory (addrOf (small 15).sp + 1) = false)
      ∧ ((atPC 0 0xFFFE).inMemory (addrOf (atPC 0 0xFFFE).sp + 1) = true ∧ 0xFFFF < (atPC 0 0xFFFE).sp.toNat + 2)
      ∧ ((atPC 0 0xFFFD).inMemory (addrOf (atPC 0 0xFFFD).sp + 1) = true ∧ (atPC 0 0xFFFD).sp.toNat + 2 ≤ 0xFFFF) := by decide

theorem witness_PushThenPopRestores :
    (atPC 0xFFFD 2).mem.wf = true ∧ 2 ≤ (atPC 0xFFFD 2).sp.toNat
      ∧ addrOf (atPC 0xFFFD 2).sp ≤ (atPC 0xFFFD 2).config.memSize ∧ (atPC 0xFFFD 2).pc.toNat + 2 ≤ 0xFFFF := by decide

/-- The state the CALL of V44.8 leaves. -/
def called : State := { atPC 0x2000 0x23FE with mem := [(0x23FE, 0x03), (0x23FF, 0x01)] }

/-- X7: the CALL of V44.8, and a state the called code may leave: A and a byte below the stack have changed. -/
def returning : State :=
  { called with regs := { Regs.zero with A := 7 }, mem := [(0x1000, 0x55), (0x23FE, 0x03), (0x23FF, 0x01)], pc := 0x2040 }

theorem witness_CallThenReturnResumes :
    (atPC 0x0100 0x2400).mem.wf = true ∧ 2 ≤ (atPC 0x0100 0x2400).sp.toNat
      ∧ addrOf (atPC 0x0100 0x2400).sp ≤ (atPC 0x0100 0x2400).config.memSize ∧ (atPC 0x0100 0x2400).pc.toNat + 3 ≤ 0xFFFF
      ∧ exec (.call 0x2000) (atPC 0x0100 0x2400) = .next called
      ∧ returning.sp = called.sp ∧ returning.mem.get called.sp.toNat = called.mem.get called.sp.toNat
      ∧ returning.mem.get (called.sp.toNat + 1) = called.mem.get (called.sp.toNat + 1) ∧ returning.config = called.config :=
  ⟨by decide, by decide, by decide, by decide, rfl, rfl, rfl, rfl, rfl⟩

theorem witness_StepRunsDecodedInstruction :
    Running (placed 0xFFFE [0x3E, 0x05] State.reset)
      ∧ decode [] ((placed 0xFFFE [0x3E, 0x05] State.reset).bytesFrom 0xFFFE 3) = .ok (.mviA 0x05, []) := ⟨⟨rfl, rfl⟩, rfl⟩

theorem witness_StepStopsAfterHaltOrFault :
    { State.reset with fault := some (.boundsError (-1)) }.fault = some (.boundsError (-1))
      ∧ ({ State.reset with halted := true }.fault = none ∧ { State.reset with halted := true }.halted = true)
      ∧ Running State.reset := ⟨rfl, ⟨rfl, rfl⟩, ⟨rfl, rfl⟩⟩

/-- V60.3. -/
def undefinedAtTop : State :=
  placed 0xFFFF [0xCB] { State.reset with config := { Config.standard with undefSet := [0xCB] } }

theorem witness_UndefinedOpcodeRaisesDecodeError :
    (Running undefinedAtTop ∧ undefinedAtTop.inMemory (addrOf undefinedAtTop.pc) = true
      ∧ opcodeAt undefinedAtTop ∈ undefinedAtTop.config.undefSet)
    ∧ (Running State.reset ∧ State.reset.config.undefSet = [] ∧ step State.reset = .next (atPC 1 0xFFFF))
    ∧ exec .nop State.reset = .next (atPC 1 0xFFFF) := ⟨⟨⟨rfl, rfl⟩, by decide, by decide⟩, ⟨⟨rfl, rfl⟩, rfl, rfl⟩, rfl⟩

/-- V60.5, V60.4 and V60.6. -/
theorem witness_FetchOutsideMemoryFaults :
    (Running { small 0 with pc := 16 } ∧ { small 0 with pc := 16 }.inMemory (addrOf 16) = false)
    ∧ (Running (placed 15 [0xC3] (small 0)) ∧ (placed 15 [0xC3] (small 0)).inMemory (addrOf 15) = true
      ∧ opcodeAt (placed 15 [0xC3] (small 0)) ∉ (small 0).config.undefSet
      ∧ 2 ≤ opcodeLength (opcodeAt (placed 15 [0xC3] (small 0)))
      ∧ (placed 15 [0xC3] (small 0)).inMemory (addrOf 15 + 1) = false)
    ∧ (Running (placed 14 [0x21] (small 0)) ∧ (placed 14 [0x21] (small 0)).inMemory (addrOf 14) = true
      ∧ opcodeAt (placed 14 [0x21] (small 0)) ∉ (small 0).config.undefSet
      ∧ opcodeLength (opcodeAt (placed 14 [0x21] (small 0))) = 3
      ∧ (placed 14 [0x21] (small 0)).inMemory (addrOf 14 + 1) = true
      ∧ (placed 14 [0x21] (small 0)).inMemory (addrOf 14 + 2) = false) :=
  ⟨⟨⟨rfl, rfl⟩, by decide⟩, ⟨⟨rfl, rfl⟩, by decide, by decide, by decide, by decide⟩,
    ⟨⟨rfl, rfl⟩, by decide, by decide, by decide, by decide, by decide⟩⟩

/-- A state whose step faults (V60.18) and one whose step completes. -/
theorem witness_FaultPriority :
    Running (placed 0 [0xC1] State.reset) ∧ stepFault (placed 0 [0xC1] State.reset) = some (.boundsError 0x10000)
      ∧ Running State.reset ∧ stepFault State.reset = none := ⟨⟨rfl, rfl⟩, by decide, ⟨rfl, rfl⟩, by decide⟩

theorem witness_FaultEntryIsPrecise :
    step (placed 0 [0xC1] State.reset) = .next { placed 0 [0xC1] State.reset with fault := some (.boundsError 0x10000) } := rfl

/-- The two ends of the range: -1 (V60.15) and 0x10000 (V60.18). -/
theorem witness_BoundsErrorAddressRange :
    wellFormed (placed 0 [0xC5] (atPC 0 1)) = true
      ∧ step (placed 0 [0xC5] (atPC 0 1)) = .next { placed 0 [0xC5] (atPC 0 1) with fault := some (.boundsError (-1)) }
      ∧ wellFormed (placed 0 [0xC1] State.reset) = true
      ∧ step (placed 0 [0xC1] State.reset)
          = .next { placed 0 [0xC1] State.reset with fault := some (.boundsError 0x10000) } :=
  ⟨by decide, rfl, by decide, rfl⟩

theorem witness_StepKeepsWellFormedState :
    wellFormed State.reset = true ∧ step State.reset = .next (atPC 1 0xFFFF) := ⟨by decide, rfl⟩

/-- An image that just fits and one a byte too long. -/
theorem witness_ResetLoadsImage :
    (Config.ofMemSize 2).wellFormed = true ∧ ([1, 2] : List Byte).length ≤ (Config.ofMemSize 2).memSize
      ∧ (Config.ofMemSize 2).memSize < ([1, 2, 3] : List Byte).length := by decide

/-- The last NOP that completes, and the one at 0xFFFF (V60.7). -/
theorem witness_NextPCSequencing :
    (exec .nop (atPC 0xFFFE 0) = .next (atPC 0xFFFF 0) ∧ (atPC 0xFFFF 0).fault = none)
      ∧ ((atPC 0xFFFF 0).fault = none ∧ accessFault .nop (atPC 0xFFFF 0) = none ∧ 0xFFFF < nextPC .nop (atPC 0xFFFF 0)) :=
  ⟨⟨rfl, rfl⟩, ⟨rfl, by decide, by decide⟩⟩

/-- STC and a bitwise operation, in a state with CY and AC set for the second. -/
theorem witness_FlagsChangeOnlyWhereTabled :
    (exec .stc State.reset = .next { atPC 1 0xFFFF with flags := { Flags.zero with CY := true } } ∧ .AC ∉ flagsWritten .stc)
      ∧ (isBitwise .xraA = true
        ∧ exec .xraA { State.reset with flags := { Flags.zero with CY := true, AC := true } }
          = .next { atPC 1 0xFFFF with flags := { Flags.zero with Z := true, P := true } }) :=
  ⟨⟨rfl, by decide⟩, ⟨rfl, rfl⟩⟩

/-- A store, with an address outside it, and an instruction that stores nothing. -/
theorem witness_MemoryChangesOnlyWhereTabled :
    (exec (.sta 0x0100) { State.reset with regs := { Regs.zero with A := 9 } }
        = .next { atPC 3 0xFFFF with regs := { Regs.zero with A := 9 }, mem := [(0x0100, 9)] }
      ∧ ((0x0101 : Nat) : Int) ∉ writeAddrs (.sta 0x0100) State.reset)
    ∧ (exec .nop State.reset = .next (atPC 1 0xFFFF) ∧ writeAddrs .nop State.reset = []) :=
  ⟨⟨rfl, by decide⟩, ⟨rfl, rfl⟩⟩

theorem witness_RegistersChangeOnlyWhereNamed :
    exec .inrB State.reset = .next { atPC 1 0xFFFF with regs := { Regs.zero with B := 1 } }
      ∧ .C ∉ regsWritten .inrB ∧ writesSP .inrB = false := ⟨rfl, by decide, rfl⟩

theorem witness_ControlStateChangesOnlyWhereNamed :
    exec .nop State.reset = .next (atPC 1 0xFFFF) ∧ Instr.nop ≠ .ei ∧ Instr.nop ≠ .di ∧ Instr.nop ≠ .hlt
      ∧ ∀ p : Byte, Instr.nop ≠ .outPort p :=
  ⟨rfl, by decide, by decide, by decide, fun _ h => by cases h⟩

/-- A completing EI, and a NOP that faults (V60.7), with a step of each kind. -/
theorem witness_InterruptEnableHasNoEffect :
    (State.reset.fault = none ∧ exec .ei State.reset = .next { atPC 1 0xFFFF with inte := true })
      ∧ ((atPC 0xFFFF 0).fault = none
        ∧ exec .nop (atPC 0xFFFF 0) = .next { atPC 0xFFFF 0 with fault := some (.boundsError 0x10000) })
      ∧ step State.reset = .next (atPC 1 0xFFFF) := ⟨⟨rfl, rfl⟩, ⟨rfl, rfl⟩, rfl⟩

/-- The highest PC at which an instruction of one, two or three bytes advances. -/
theorem witness_RegisterMoveResult :
    (atPC 0xFFFE 0).pc.toNat + 1 ≤ 0xFFFF ∧ (atPC 0xFFFD 0).pc.toNat + 2 ≤ 0xFFFF ∧ (atPC 0xFFFC 0).pc.toNat + 3 ≤ 0xFFFF := by
  decide

/-- A state whose HL is the last address of a 16-byte memory. -/
def lastM : State := { small 0 with regs := { Regs.zero with L := 0x0F } }

/-- A state whose HL is the first address past a 16-byte memory. -/
def missingM : State := { small 0 with regs := { Regs.zero with L := 0x10 } }

theorem witness_MoveFromMemoryResult :
    (256 * lastM.regs.H.toNat + lastM.regs.L.toNat < lastM.config.memSize ∧ lastM.pc.toNat + 1 ≤ 0xFFFF)
      ∧ missingM.config.memSize ≤ 256 * missingM.regs.H.toNat + missingM.regs.L.toNat := by decide

theorem witness_StoreToMemoryResult :
    (256 * lastM.regs.H.toNat + lastM.regs.L.toNat < lastM.config.memSize ∧ lastM.pc.toNat + 1 ≤ 0xFFFF
      ∧ lastM.pc.toNat + 2 ≤ 0xFFFF)
      ∧ missingM.config.memSize ≤ 256 * missingM.regs.H.toNat + missingM.regs.L.toNat := by decide

/-- Each kind of source, with the carry read: 0xFF + 0xFF + 1 and 0 - 0xFF - 1. -/
def carryIn (a : Byte) : State :=
  { atPC 0xFFFD 0 with regs := { Regs.zero with A := a, B := 0xFF }, flags := { Flags.zero with CY := true } }

theorem witness_AddResult :
    (Source.reg .B).readable (carryIn 0xFF) = true ∧ (carryIn 0xFF).pc.toNat + (Source.reg .B).length ≤ 0xFFFF
      ∧ 511 = (carryIn 0xFF).regs.A.toNat + ((Source.reg .B).value (carryIn 0xFF)).toNat
          + (true && (carryIn 0xFF).flags.CY).toNat
      ∧ 31 = (carryIn 0xFF).regs.A.toNat % 16 + ((Source.reg .B).value (carryIn 0xFF)).toNat % 16
          + (true && (carryIn 0xFF).flags.CY).toNat
      ∧ Source.M.readable lastM = true ∧ lastM.pc.toNat + Source.M.length ≤ 0xFFFF
      ∧ (Source.imm 0).readable (carryIn 0) = true ∧ (carryIn 0).pc.toNat + (Source.imm 0).length ≤ 0xFFFF := by decide

theorem witness_SubtractResult :
    (Source.reg .B).readable (carryIn 0) = true ∧ (carryIn 0).pc.toNat + (Source.reg .B).length ≤ 0xFFFF
      ∧ 256 = ((Source.reg .B).value (carryIn 0)).toNat + (true && (carryIn 0).flags.CY).toNat
      ∧ 0 = (carryIn 0).regs.A.toNat + 256 - 256 := by decide

theorem witness_LogicResult :
    Source.M.readable lastM = true ∧ lastM.pc.toNat + Source.M.length ≤ 0xFFFF ∧ AluOp.XRA ∈ [AluOp.ANA, .XRA, .ORA]
      ∧ (0 : Byte) = (if AluOp.XRA = .ANA then lastM.regs.A &&& Source.M.value lastM
          else if AluOp.XRA = .XRA then lastM.regs.A ^^^ Source.M.value lastM else lastM.regs.A ||| Source.M.value lastM) := by decide

theorem witness_CompareResult :
    (Source.imm 0xFF).readable (carryIn 0) = true ∧ (carryIn 0).pc.toNat + (Source.imm 0xFF).length ≤ 0xFFFF := by decide

theorem witness_AccumulatorOperationOnMissingM :
    missingM.config.memSize ≤ 256 * missingM.regs.H.toNat + missingM.regs.L.toNat := by decide

theorem witness_IncrementDecrementRegisterResult :
    (carryIn 0).pc.toNat + 1 ≤ 0xFFFF ∧ (0x00 : Byte) = BitVec.ofNat 8 (((carryIn 0).regs.get .B).toNat + 1)
      ∧ (0xFF : Byte) = BitVec.ofNat 8 (((carryIn 0).regs.get .A).toNat + 255) := by decide

theorem witness_IncrementDecrementMemoryResult :
    (15 = 256 * lastM.regs.H.toNat + lastM.regs.L.toNat ∧ (0 : Byte) = lastM.mem.get 15 ∧ 15 < lastM.config.memSize
      ∧ lastM.pc.toNat + 1 ≤ 0xFFFF ∧ (1 : Byte) = BitVec.ofNat 8 ((0 : Byte).toNat + 1)
      ∧ (0xFF : Byte) = BitVec.ofNat 8 ((0 : Byte).toNat + 255))
    ∧ (16 = 256 * missingM.regs.H.toNat + missingM.regs.L.toNat ∧ (0 : Byte) = missingM.mem.get 16
      ∧ missingM.config.memSize ≤ 16) := by decide

theorem witness_PairIncrementDecrementResult : (atPC 0xFFFE 0xFFFF).pc.toNat + 1 ≤ 0xFFFF := by decide

/-- HL + SP = 0xFFFF + 0xFFFF. -/
theorem witness_AddPairToHLResult :
    { atPC 0xFFFE 0xFFFF with regs := { Regs.zero with H := 0xFF, L := 0xFF } }.pc.toNat + 1 ≤ 0xFFFF
      ∧ 131070 = 256 * (0xFF : Byte).toNat + (0xFF : Byte).toNat
        + ({ atPC 0xFFFE 0xFFFF with regs := { Regs.zero with H := 0xFF, L := 0xFF } }.pair .SP).toNat := by decide

theorem witness_RotateResult :
    (carryIn 0x81).pc.toNat + 1 ≤ 0xFFFF ∧ 0x81 = (carryIn 0x81).regs.A.toNat ∧ 1 = (carryIn 0x81).flags.CY.toNat := by decide

theorem witness_JumpResult :
    condHolds .C (carryIn 0).flags = true ∧ condHolds .Z (atPC 0xFFFC 0).flags = false ∧ (atPC 0xFFFC 0).pc.toNat + 3 ≤ 0xFFFF := by
  decide

/-- The lowest stack that holds a return address, a condition that holds, one that fails, and a PC too high to return to. -/
theorem witness_CallAndRestartResult :
    ((atPC 0xFFFC 2).inMemory (addrOf (atPC 0xFFFC 2).sp - 1) = true ∧ 2 ≤ (atPC 0xFFFC 2).sp.toNat
      ∧ 0xFFFF = (atPC 0xFFFC 2).pc.toNat + 3 ∧ condHolds .NZ (atPC 0xFFFC 2).flags = true
      ∧ 0xFFFD = (atPC 0xFFFC 2).pc.toNat + 1)
    ∧ (condHolds .Z (atPC 0xFFFC 2).flags = false ∧ (atPC 0xFFFC 2).pc.toNat + 3 ≤ 0xFFFF)
    ∧ 0xFFFF < (atPC 0xFFFD 2).pc.toNat + 3 := by decide

theorem witness_ReturnResult :
    (addrOf (atPC 0 0xFFFD).sp + 1 < (atPC 0 0xFFFD).config.memSize ∧ (atPC 0 0xFFFD).sp.toNat + 2 ≤ 0xFFFF
      ∧ condHolds .NZ (atPC 0 0xFFFD).flags = true)
    ∧ (condHolds .Z (atPC 0xFFFE 0).flags = false ∧ (atPC 0xFFFE 0).pc.toNat + 1 ≤ 0xFFFF) := by decide

theorem witness_PushResult :
    (atPC 0xFFFE 2).inMemory (addrOf (atPC 0xFFFE 2).sp - 1) = true ∧ 2 ≤ (atPC 0xFFFE 2).sp.toNat
      ∧ (atPC 0xFFFE 2).pc.toNat + 1 ≤ 0xFFFF := by decide

theorem witness_PopResult :
    addrOf (atPC 0xFFFE 0xFFFD).sp + 1 < (atPC 0xFFFE 0xFFFD).config.memSize ∧ (atPC 0xFFFE 0xFFFD).sp.toNat + 2 ≤ 0xFFFF
      ∧ (atPC 0xFFFE 0xFFFD).pc.toNat + 1 ≤ 0xFFFF ∧ (0 : Byte) = (atPC 0xFFFE 0xFFFD).mem.get 0xFFFD := by decide

theorem witness_StackPointerMoveResult :
    ((atPC 0xFFFE 0xFFFE).pc.toNat + 1 ≤ 0xFFFF ∧ addrOf (atPC 0xFFFE 0xFFFE).sp + 1 < (atPC 0xFFFE 0xFFFE).config.memSize)
      ∧ (small 16).config.memSize ≤ (small 16).sp.toNat ∧ addrOf State.reset.sp + 1 = State.reset.config.memSize := by decide

theorem witness_FlagAndModeResult : (atPC 0xFFFE 0).pc.toNat + 1 ≤ 0xFFFF := by decide

/-- A = 0x9A, flags clear: both corrections (V45.13). -/
theorem witness_DecimalAdjustResult :
    ({ State.reset with regs := { Regs.zero with A := 0x9A } }.pc.toNat + 1 ≤ 0xFFFF)
      ∧ 10 = (0x9A : Byte).toNat % 16 ∧ 9 = (0x9A : Byte).toNat / 16
      ∧ 6 = (if State.reset.flags.AC = true ∨ 9 < 10 then 6 else 0)
      ∧ 96 = (if State.reset.flags.CY = true ∨ 9 < 9 ∨ (9 ≤ 9 ∧ 9 < 10) then 96 else 0)
      ∧ 0 = ((0x9A : Byte).toNat + 6 + 96) % 256 := by decide

theorem witness_AccumulatorTransferResult :
    (0 < (atPC 0xFFFE 0).config.memSize ∧ (atPC 0xFFFE 0).pc.toNat + 1 ≤ 0xFFFF
      ∧ 0 = 256 * (atPC 0xFFFE 0).regs.B.toNat + (atPC 0xFFFE 0).regs.C.toNat
      ∧ 0 = 256 * (atPC 0xFFFE 0).regs.D.toNat + (atPC 0xFFFE 0).regs.E.toNat)
    ∧ ((0xFFFF : Word).toNat < (atPC 0xFFFC 0).config.memSize ∧ (atPC 0xFFFC 0).pc.toNat + 3 ≤ 0xFFFF) := by decide

theorem witness_HLTransferResult :
    ((0xFFFE : Word).toNat + 1 < (atPC 0xFFFC 0).config.memSize ∧ (atPC 0xFFFC 0).pc.toNat + 3 ≤ 0xFFFF)
      ∧ (small 0).config.memSize ≤ (0x0010 : Word).toNat ∧ (0xFFFF : Word).toNat + 1 = State.reset.config.memSize := by decide

theorem witness_PortResult :
    (atPC 0xFFFD 0).pc.toNat + 2 ≤ 0xFFFF
      ∧ portInValue { Config.standard with portIn := [(0x10, 0x7E)] } 0x10 = some 0x7E
      ∧ portInValue Config.standard 0x10 = none := by decide

end Sys2Proof.Tests
end

section
/-! PROOFS. What every instruction does, said once. `Effect s i u` is a row per family: `u` is `s` with all that a completing
instruction writes but its PC. `exec_eq` joins it to the model: `exec` answers the fault of the spec's table (R236) taken from
`s`, or `u` with the next PC of the table (R14). Statements about all instructions follow by cases on the rows. -/
namespace Sys2Proof.Machine

open Sys2Proof.Safety

/-! ## The two stack moves -/

/-- `Push16(v)` without its checks (R40). -/
def State.pushed (s : State) (v : Word) : State :=
  { s with mem := (s.mem.set (addrOf s.sp - 1).toNat (hiByte v)).set (addrOf s.sp - 2).toNat (loByte v),
           sp := s.sp - 2 }

/-- The state `Pop16()` leaves, without its checks (R40). -/
def State.popped (s : State) : State := { s with sp := BitVec.ofNat 16 (s.sp.toNat + 2) }

@[simp] theorem State.pushed_regs (s : State) (v : Word) : (s.pushed v).regs = s.regs := rfl
@[simp] theorem State.pushed_flags (s : State) (v : Word) : (s.pushed v).flags = s.flags := rfl
@[simp] theorem State.pushed_pc (s : State) (v : Word) : (s.pushed v).pc = s.pc := rfl
@[simp] theorem State.pushed_inte (s : State) (v : Word) : (s.pushed v).inte = s.inte := rfl
@[simp] theorem State.pushed_halted (s : State) (v : Word) : (s.pushed v).halted = s.halted := rfl
@[simp] theorem State.pushed_fault (s : State) (v : Word) : (s.pushed v).fault = s.fault := rfl
@[simp] theorem State.pushed_portOut (s : State) (v : Word) : (s.pushed v).portOut = s.portOut := rfl
@[simp] theorem State.pushed_config (s : State) (v : Word) : (s.pushed v).config = s.config := rfl

@[simp] theorem State.popped_regs (s : State) : s.popped.regs = s.regs := rfl
@[simp] theorem State.popped_flags (s : State) : s.popped.flags = s.flags := rfl
@[simp] theorem State.popped_pc (s : State) : s.popped.pc = s.pc := rfl
@[simp] theorem State.popped_inte (s : State) : s.popped.inte = s.inte := rfl
@[simp] theorem State.popped_halted (s : State) : s.popped.halted = s.halted := rfl
@[simp] theorem State.popped_fault (s : State) : s.popped.fault = s.fault := rfl
@[simp] theorem State.popped_mem (s : State) : s.popped.mem = s.mem := rfl
@[simp] theorem State.popped_portOut (s : State) : s.popped.portOut = s.portOut := rfl
@[simp] theorem State.popped_config (s : State) : s.popped.config = s.config := rfl

/-! ## An accumulator operation writes A and the flags, nothing else -/

theorem applyAlu_frame (op : AluOp) (v : Byte) (s : State) :
    applyAlu op v s = { s with regs := { s.regs with A := (applyAlu op v s).regs.A }, flags := (applyAlu op v s).flags } := by
  cases op <;> rfl

@[simp] theorem applyAlu_pc (op : AluOp) (v : Byte) (s : State) : (applyAlu op v s).pc = s.pc := by rw [applyAlu_frame]
@[simp] theorem applyAlu_sp (op : AluOp) (v : Byte) (s : State) : (applyAlu op v s).sp = s.sp := by rw [applyAlu_frame]
@[simp] theorem applyAlu_inte (op : AluOp) (v : Byte) (s : State) : (applyAlu op v s).inte = s.inte := by rw [applyAlu_frame]
@[simp] theorem applyAlu_halted (op : AluOp) (v : Byte) (s : State) : (applyAlu op v s).halted = s.halted := by
  rw [applyAlu_frame]
@[simp] theorem applyAlu_fault (op : AluOp) (v : Byte) (s : State) : (applyAlu op v s).fault = s.fault := by rw [applyAlu_frame]
@[simp] theorem applyAlu_mem (op : AluOp) (v : Byte) (s : State) : (applyAlu op v s).mem = s.mem := by rw [applyAlu_frame]
@[simp] theorem applyAlu_portOut (op : AluOp) (v : Byte) (s : State) : (applyAlu op v s).portOut = s.portOut := by
  rw [applyAlu_frame]
@[simp] theorem applyAlu_config (op : AluOp) (v : Byte) (s : State) : (applyAlu op v s).config = s.config := by
  rw [applyAlu_frame]

/-! ## The effect of an instruction that completes -/

/-- `u` is `s` with what instruction `i` writes, its PC apart. -/
inductive Effect (s : State) : Instr → State → Prop where
  | mov (d r : Reg) : Effect s (movOf d r) (s.setReg d (s.reg r))
  | movFromM (d : Reg) : Effect s (movFromMOf d) (s.setReg d (s.byteAt (addrM s)))
  | movToM (r : Reg) : Effect s (movToMOf r) (s.setByteAt (addrM s) (s.reg r))
  | mvi (r : Reg) (d8 : Byte) : Effect s (mviOf r d8) (s.setReg r d8)
  | mviM (d8 : Byte) : Effect s (.mviM d8) (s.setByteAt (addrM s) d8)
  | lxi (p : Pair) (d16 : Word) : Effect s (lxiOf p d16) (s.setPair p d16)
  | xchg : Effect s .xchg ((s.setRegPair .DE (s.regPair .HL)).setRegPair .HL (s.regPair .DE))
  | aluReg (op : AluOp) (r : Reg) : Effect s (aluRegOf op r) (applyAlu op (s.reg r) s)
  | aluM (op : AluOp) : Effect s (aluMOf op) (applyAlu op (s.byteAt (addrM s)) s)
  | aluImm (op : AluOp) (d8 : Byte) : Effect s (aluImmOf op d8) (applyAlu op d8 s)
  | inr (r : Reg) : Effect s (inrOf r) ((s.setReg r (inc8 (s.reg r) s.flags).1).setFlags (inc8 (s.reg r) s.flags).2)
  | inrM : Effect s .inrM
      ((s.setByteAt (addrM s) (inc8 (s.byteAt (addrM s)) s.flags).1).setFlags (inc8 (s.byteAt (addrM s)) s.flags).2)
  | dcr (r : Reg) : Effect s (dcrOf r) ((s.setReg r (dec8 (s.reg r) s.flags).1).setFlags (dec8 (s.reg r) s.flags).2)
  | dcrM : Effect s .dcrM
      ((s.setByteAt (addrM s) (dec8 (s.byteAt (addrM s)) s.flags).1).setFlags (dec8 (s.byteAt (addrM s)) s.flags).2)
  | inx (p : Pair) : Effect s (inxOf p) (s.setPair p (s.pair p + 1))
  | dcx (p : Pair) : Effect s (dcxOf p) (s.setPair p (s.pair p - 1))
  | dad (p : Pair) : Effect s (dadOf p)
      ((s.setRegPair .HL (dad16 (s.regPair .HL) (s.pair p)).1).setCarry (dad16 (s.regPair .HL) (s.pair p)).2)
  | rlc : Effect s .rlc ((s.setReg .A (rotRLC (s.reg .A)).1).setCarry (rotRLC (s.reg .A)).2)
  | rrc : Effect s .rrc ((s.setReg .A (rotRRC (s.reg .A)).1).setCarry (rotRRC (s.reg .A)).2)
  | ral : Effect s .ral ((s.setReg .A (rotRAL (s.reg .A) s.flags.CY).1).setCarry (rotRAL (s.reg .A) s.flags.CY).2)
  | rar : Effect s .rar ((s.setReg .A (rotRAR (s.reg .A) s.flags.CY).1).setCarry (rotRAR (s.reg .A) s.flags.CY).2)
  | daa : Effect s .daa (s.setAccumulator (daa8 (s.reg .A) s.flags))
  | cma : Effect s .cma (s.setReg .A (~~~(s.reg .A)))
  | stc : Effect s .stc (s.setCarry true)
  | cmc : Effect s .cmc (s.setCarry (!s.flags.CY))
  | nop : Effect s .nop s
  | ei : Effect s .ei { s with inte := true }
  | di : Effect s .di { s with inte := false }
  | hlt : Effect s .hlt { s with halted := true }
  | staxB : Effect s .staxB (s.setByteAt (addrOf (s.regPair .BC)) (s.reg .A))
  | staxD : Effect s .staxD (s.setByteAt (addrOf (s.regPair .DE)) (s.reg .A))
  | sta (a16 : Word) : Effect s (.sta a16) (s.setByteAt (addrOf a16) (s.reg .A))
  | ldaxB : Effect s .ldaxB (s.setReg .A (s.byteAt (addrOf (s.regPair .BC))))
  | ldaxD : Effect s .ldaxD (s.setReg .A (s.byteAt (addrOf (s.regPair .DE))))
  | lda (a16 : Word) : Effect s (.lda a16) (s.setReg .A (s.byteAt (addrOf a16)))
  | shld (a16 : Word) : Effect s (.shld a16)
      ((s.setByteAt (addrOf a16) (loByte (s.regPair .HL))).setByteAt (addrOf a16 + 1) (hiByte (s.regPair .HL)))
  | lhld (a16 : Word) : Effect s (.lhld a16)
      (s.setRegPair .HL (joinBytes (s.byteAt (addrOf a16 + 1)) (s.byteAt (addrOf a16))))
  | inAnswered (p8 v : Byte) (h : portInValue s.config p8 = some v) : Effect s (.inPort p8) (s.setReg .A v)
  | inUnanswered (p8 : Byte) (h : portInValue s.config p8 = none) : Effect s (.inPort p8) s
  | out (p8 : Byte) : Effect s (.outPort p8) (emitPortOut p8 (s.reg .A) s)
  | jmp (a16 : Word) : Effect s (.jmp a16) s
  | pchl : Effect s .pchl s
  | jcc (c : Cond) (a16 : Word) : Effect s (jccOf c a16) s
  | call (a16 : Word) : Effect s (.call a16) (s.pushed (BitVec.ofNat 16 (s.pc.toNat + 3)))
  | cccTaken (c : Cond) (a16 : Word) (h : condHolds c s.flags = true) :
      Effect s (cccOf c a16) (s.pushed (BitVec.ofNat 16 (s.pc.toNat + 3)))
  | cccUntaken (c : Cond) (a16 : Word) (h : condHolds c s.flags = false) : Effect s (cccOf c a16) s
  | rst (n : BitVec 3) : Effect s (rstOf n) (s.pushed (BitVec.ofNat 16 (s.pc.toNat + 1)))
  | ret : Effect s .ret s.popped
  | rccTaken (c : Cond) (h : condHolds c s.flags = true) : Effect s (rccOf c) s.popped
  | rccUntaken (c : Cond) (h : condHolds c s.flags = false) : Effect s (rccOf c) s
  | push (p : RegPair) : Effect s (pushOf p) (s.pushed (s.regPair p))
  | pushPSW : Effect s .pushPSW (s.pushed (joinBytes (s.reg .A) (flagsByte s.flags)))
  | pop (p : RegPair) : Effect s (popOf p) (s.popped.setRegPair p (topOfStack s))
  | popPSW : Effect s .popPSW
      ((s.popped.setReg .A (hiByte (topOfStack s))).setFlags (flagsOfByte (loByte (topOfStack s))))
  | xthl : Effect s .xthl
      (((s.setByteAt (addrOf s.sp) (loByte (s.regPair .HL))).setByteAt (addrOf s.sp + 1) (hiByte (s.regPair .HL))).setRegPair
        .HL (topOfStack s))
  | sphl : Effect s .sphl (s.setPair .SP (s.regPair .HL))

/-- Every instruction has an effect. -/
theorem effect_exists (i : Instr) (s : State) : ∃ u, Effect s i u := by
  cases family_of i
  case mov d r => exact ⟨_, .mov d r⟩
  case movFromM d => exact ⟨_, .movFromM d⟩
  case movToM r => exact ⟨_, .movToM r⟩
  case mvi r d8 => exact ⟨_, .mvi r d8⟩
  case lxi p d16 => exact ⟨_, .lxi p d16⟩
  case aluReg op r => exact ⟨_, .aluReg op r⟩
  case aluM op => exact ⟨_, .aluM op⟩
  case aluImm op d8 => exact ⟨_, .aluImm op d8⟩
  case inr r => exact ⟨_, .inr r⟩
  case dcr r => exact ⟨_, .dcr r⟩
  case inx p => exact ⟨_, .inx p⟩
  case dcx p => exact ⟨_, .dcx p⟩
  case dad p => exact ⟨_, .dad p⟩
  case jcc c a16 => exact ⟨_, .jcc c a16⟩
  case ccc c a16 =>
    cases h : condHolds c s.flags
    · exact ⟨_, .cccUntaken c a16 h⟩
    · exact ⟨_, .cccTaken c a16 h⟩
  case rcc c =>
    cases h : condHolds c s.flags
    · exact ⟨_, .rccUntaken c h⟩
    · exact ⟨_, .rccTaken c h⟩
  case rst n => exact ⟨_, .rst n⟩
  case push p => exact ⟨_, .push p⟩
  case pop p => exact ⟨_, .pop p⟩
  case inPort p8 =>
    cases h : portInValue s.config p8
    · exact ⟨_, .inUnanswered p8 h⟩
    · exact ⟨_, .inAnswered p8 _ h⟩
  all_goals exact ⟨_, by constructor⟩

/-! ## The outcome of `exec`: the first fault of the table, or the effect with the next PC -/

/-- The state an instruction begun in `s` ends in: the fault, taken from `s`, or else `t`. -/
def conclude (s : State) (f : Option Fault) (t : State) : State := f.elim t (takeFault · s)

@[simp] theorem conclude_none (s t : State) : conclude s none t = t := rfl
@[simp] theorem conclude_some (s t : State) (k : Fault) : conclude s (some k) t = takeFault k s := rfl

/-- The state after instruction `i` with effect `u`: the first fault of R236, or `u` with the next PC of R14. -/
def concluded (i : Instr) (s u : State) : State :=
  conclude s (execFault i s) { u with pc := BitVec.ofNat 16 (nextPC i s) }

/-- The spec's tables for one instruction: return-address fault, addresses read, addresses written, fault of a popped SP (the
sources of R236, in order), and the next PC (R14). -/
def profile (i : Instr) (s : State) : Option Fault × List Int × List Int × Option Fault × Nat :=
  (returnAddressFault i s, readAddrs i s, writeAddrs i s, poppedSPFault i s, nextPC i s)

/-- The first of `addrs` that lies outside memory, else `f`. -/
def outsideOr (s : State) (addrs : List Int) (f : Option Fault) : Option Fault :=
  addrs.foldr (fun a rest => outside s a <|> rest) f

theorem findSome?_outside (s : State) (addrs : List Int) (f : Option Fault) :
    (addrs.findSome? (outside s) <|> f) = outsideOr s addrs f := by
  induction addrs with
  | nil => rfl
  | cons a rest ih =>
    rw [outsideOr, List.foldr_cons, ← outsideOr, ← ih, List.findSome?_cons]
    cases outside s a <;> rfl

theorem outside_of_inMemory {s : State} {a : Int} (h : s.inMemory a = true) : outside s a = none := if_pos h

theorem outside_of_not_inMemory {s : State} {a : Int} (h : ¬ s.inMemory a = true) :
    outside s a = some (.boundsError a) := if_neg h

theorem tooWide_of_le {n : Nat} (h : n ≤ 0xFFFF) : tooWide n = none := if_pos h

theorem tooWide_of_not_le {n : Nat} (h : ¬ n ≤ 0xFFFF) : tooWide n = some (.boundsError n) := if_neg h

theorem le_of_tooWide {n : Nat} (h : tooWide n = none) : n ≤ 0xFFFF := by
  by_contra hn
  simp [tooWide_of_not_le hn] at h

theorem tooWide_toNat (w : Word) : tooWide w.toNat = none := tooWide_of_le (Nat.le_of_lt_succ w.isLt)

/-! One rule per operation that may fault: its check comes first, then the faults of what follows. -/

section
variable {s t : State} {f : Option Fault}

theorem finish_fit16 {n : Nat} {k : Word → Except Fault State}
    (h : finish s (k (BitVec.ofNat 16 n)) = .next (conclude s f t)) :
    finish s (fit16 n >>= k) = .next (conclude s (tooWide n <|> f) t) := by
  by_cases hn : n ≤ 0xFFFF
  · rw [tooWide_of_le hn, fit16_ok hn]; exact h
  · rw [tooWide_of_not_le hn, fit16_error (by omega)]; rfl

theorem finish_checkAddr {a : Int} {k : Unit → Except Fault State} (h : finish s (k ()) = .next (conclude s f t)) :
    finish s (s.checkAddr a >>= k) = .next (conclude s (outside s a <|> f) t) := by
  unfold State.checkAddr
  by_cases ha : s.inMemory a = true
  · rw [outside_of_inMemory ha, if_pos ha]; exact h
  · rw [outside_of_not_inMemory ha, if_neg ha]; rfl

theorem finish_memRead {a : Int} {k : Byte → Except Fault State}
    (h : finish s (k (s.byteAt a)) = .next (conclude s f t)) :
    finish s (memRead s a >>= k) = .next (conclude s (outside s a <|> f) t) := by
  simp only [memRead, bind_assoc, pure_bind]
  exact finish_checkAddr h

theorem finish_memWrite {a : Int} {v : Byte} {k : State → Except Fault State}
    (h : finish s (k (s.setByteAt a v)) = .next (conclude s f t)) :
    finish s (memWrite s a v >>= k) = .next (conclude s (outside s a <|> f) t) := by
  simp only [memWrite, bind_assoc, pure_bind]
  exact finish_checkAddr h

theorem finish_memRead16 {a : Int} {k : Word → Except Fault State}
    (h : finish s (k (joinBytes (s.byteAt (a + 1)) (s.byteAt a))) = .next (conclude s f t)) :
    finish s (memRead16 s a >>= k) = .next (conclude s (outside s a <|> outside s (a + 1) <|> f) t) := by
  simp only [memRead16, bind_assoc, pure_bind]
  exact finish_checkAddr (finish_checkAddr h)

theorem finish_memWrite16 {a : Int} {v : Word} {k : State → Except Fault State}
    (h : finish s (k ((s.setByteAt a (loByte v)).setByteAt (a + 1) (hiByte v))) = .next (conclude s f t)) :
    finish s (memWrite16 s a v >>= k) = .next (conclude s (outside s a <|> outside s (a + 1) <|> f) t) := by
  simp only [memWrite16, bind_assoc, pure_bind]
  exact finish_checkAddr (finish_checkAddr h)

theorem finish_push16 {v : Word} {k : State → Except Fault State}
    (h : finish s (k (s.pushed v)) = .next (conclude s f t)) :
    finish s (push16 s v >>= k) =
      .next (conclude s (outside s (addrOf s.sp - 1) <|> outside s (addrOf s.sp - 2) <|> f) t) := by
  simp only [push16, bind_assoc, pure_bind]
  exact finish_checkAddr (finish_checkAddr h)

theorem finish_pop16 {k : Word × State → Except Fault State}
    (h : finish s (k (topOfStack s, s.popped)) = .next (conclude s f t)) :
    finish s (pop16 s >>= k) =
      .next (conclude s
        (outside s (addrOf s.sp) <|> outside s (addrOf s.sp + 1) <|> tooWide (s.sp.toNat + 2) <|> f) t) := by
  simp only [pop16, bind_assoc, pure_bind]
  exact finish_memRead16 (finish_fit16 h)

theorem finish_advance_eq {len : Nat} (hpc : t.pc = s.pc) :
    finish s (advance len t) =
      .next (conclude s (tooWide (s.pc.toNat + len)) { t with pc := BitVec.ofNat 16 (s.pc.toNat + len) }) := by
  unfold advance
  rw [hpc]
  have h := finish_fit16 (s := s) (f := none) (n := s.pc.toNat + len)
    (k := fun npc => pure { t with pc := npc }) rfl
  cases hw : tooWide (s.pc.toNat + len) <;> rw [hw] at h <;> exact h

theorem finish_callTo (target : Word) (len : Nat) :
    finish s (callTo target len s) =
      .next (conclude s (tooWide (s.pc.toNat + len) <|> outside s (addrOf s.sp - 1) <|> outside s (addrOf s.sp - 2) <|> none)
        (jumpTo target (s.pushed (BitVec.ofNat 16 (s.pc.toNat + len))))) :=
  finish_fit16 (finish_push16 rfl)

theorem finish_returnFrom :
    finish s (returnFrom s) =
      .next (conclude s
        (outside s (addrOf s.sp) <|> outside s (addrOf s.sp + 1) <|> tooWide (s.sp.toNat + 2) <|> none)
        (jumpTo (topOfStack s) s.popped)) :=
  finish_pop16 rfl

end

section
variable {i : Instr} {s u : State} {ret popped : Option Fault} {reads writes : List Int} {n : Nat}

/-- The tables of `profile` are all of `concluded`. -/
theorem concluded_of_profile (hp : profile i s = (ret, reads, writes, popped, n)) :
    concluded i s u = conclude s (ret <|> outsideOr s reads (outsideOr s writes (popped <|> tooWide n)))
      { u with pc := BitVec.ofNat 16 n } := by
  simp only [profile, Prod.mk.injEq] at hp
  obtain ⟨rfl, rfl, rfl, rfl, rfl⟩ := hp
  have hassoc (a b c d e : Option Fault) : ((a <|> b <|> c <|> d) <|> e) = (a <|> b <|> c <|> d <|> e) := by
    cases a <;> cases b <;> cases c <;> rfl
  rw [concluded, execFault, accessFault, hassoc, findSome?_outside, findSome?_outside]

theorem exec_of_profile {r : Except Fault State} (hx : exec i s = finish s r)
    (hp : profile i s = (ret, reads, writes, popped, n))
    (h : finish s r = .next (conclude s (ret <|> outsideOr s reads (outsideOr s writes (popped <|> tooWide n)))
      { u with pc := BitVec.ofNat 16 n })) :
    exec i s = .next (concluded i s u) := by
  rw [hx, h, concluded_of_profile hp]

/-- An instruction without a data access, followed by the next one. -/
theorem exec_sequential {len : Nat} (hx : exec i s = finish s (advance len u)) (hpc : u.pc = s.pc)
    (hp : profile i s = (none, [], [], none, s.pc.toNat + len)) : exec i s = .next (concluded i s u) :=
  exec_of_profile hx hp (finish_advance_eq hpc)

/-- A jump, without a data access. -/
theorem exec_jump {target : Word} (hx : exec i s = finish s (.ok (jumpTo target u)))
    (hp : profile i s = (none, [], [], none, target.toNat)) : exec i s = .next (concluded i s u) := by
  refine exec_of_profile hx hp ?_
  show _ = Host.Outcome.next (conclude s (tooWide target.toNat) _)
  rw [tooWide_toNat, BitVec.ofNat_toNat, BitVec.setWidth_eq]
  rfl

/-- A call to a target that fits: the return address, then the two stack bytes. -/
theorem exec_call {target : Word} {len : Nat} (hx : exec i s = finish s (callTo target len s))
    (hp : profile i s = (tooWide (s.pc.toNat + len), [], pushAddrs s, none, target.toNat)) :
    exec i s = .next (concluded i s (s.pushed (BitVec.ofNat 16 (s.pc.toNat + len)))) := by
  refine exec_of_profile hx hp ?_
  rw [finish_callTo, tooWide_toNat, BitVec.ofNat_toNat, BitVec.setWidth_eq]
  rfl

/-- A return: the two stack bytes, then the popped SP. -/
theorem exec_return (hx : exec i s = finish s (returnFrom s))
    (hp : profile i s = (none, popAddrs s, [], tooWide (s.sp.toNat + 2), (topOfStack s).toNat)) :
    exec i s = .next (concluded i s s.popped) := by
  refine exec_of_profile hx hp ?_
  rw [finish_returnFrom, tooWide_toNat, BitVec.ofNat_toNat, BitVec.setWidth_eq]
  rfl

end

/-! The tables for the conditional transfers and RST. -/

section
variable {c : Cond} {s : State}

theorem profile_jcc_taken (a16 : Word) (h : condHolds c s.flags = true) :
    profile (jccOf c a16) s = (none, [], [], none, a16.toNat) := by
  cases c <;> simp only [profile, jccOf, nextPC, takenTarget.eq_def, h] <;> rfl

theorem profile_jcc_untaken (a16 : Word) (h : condHolds c s.flags = false) :
    profile (jccOf c a16) s = (none, [], [], none, s.pc.toNat + 3) := by
  cases c <;> simp only [profile, jccOf, nextPC, takenTarget.eq_def, h] <;> rfl

theorem profile_ccc_taken (a16 : Word) (h : condHolds c s.flags = true) :
    profile (cccOf c a16) s = (tooWide (s.pc.toNat + 3), [], pushAddrs s, none, a16.toNat) := by
  cases c <;> simp only [profile, cccOf, returnAddressFault.eq_def, writeAddrs.eq_def, nextPC, takenTarget.eq_def, h] <;> rfl

theorem profile_ccc_untaken (a16 : Word) (h : condHolds c s.flags = false) :
    profile (cccOf c a16) s = (none, [], [], none, s.pc.toNat + 3) := by
  cases c <;> simp only [profile, cccOf, returnAddressFault.eq_def, writeAddrs.eq_def, nextPC, takenTarget.eq_def, h] <;> rfl

theorem profile_rcc_taken (h : condHolds c s.flags = true) :
    profile (rccOf c) s = (none, popAddrs s, [], tooWide (s.sp.toNat + 2), (topOfStack s).toNat) := by
  cases c <;> simp only [profile, rccOf, readAddrs.eq_def, poppedSPFault.eq_def, nextPC, takenTarget.eq_def, h] <;> rfl

theorem profile_rcc_untaken (h : condHolds c s.flags = false) :
    profile (rccOf c) s = (none, [], [], none, s.pc.toNat + 1) := by
  cases c <;> simp only [profile, rccOf, readAddrs.eq_def, poppedSPFault.eq_def, nextPC, takenTarget.eq_def, h] <;> rfl

theorem profile_rst (n : BitVec 3) (s : State) :
    profile (rstOf n) s = (tooWide (s.pc.toNat + 1), [], pushAddrs s, none, (n.zeroExtend 16 * 8).toNat) := by
  revert n
  have h : ∀ k : Fin 8, profile (rstOf (BitVec.ofFin k)) s =
      (tooWide (s.pc.toNat + 1), [], pushAddrs s, none, ((BitVec.ofFin (w := 3) k).zeroExtend 16 * 8).toNat) := by
    intro k
    fin_cases k <;> rfl
  exact fun n => h n.toFin

end

/-- What `exec` answers: the first fault of the spec's table (R236), or the effect with the next PC of the spec's table
(R14). -/
theorem exec_eq {i : Instr} {s u : State} (h : Effect s i u) : exec i s = .next (concluded i s u) := by
  cases h
  case mov d r => exact exec_sequential (exec_movOf d r s) rfl (by cases d <;> cases r <;> rfl)
  case movFromM d =>
    have hp : profile (movFromMOf d) s = (none, [addrM s], [], none, s.pc.toNat + 1) := by cases d <;> rfl
    exact exec_of_profile (exec_movFromMOf d s) hp
      (finish_memRead (finish_advance_eq (len := 1) (t := s.setReg d (s.byteAt (addrM s))) rfl))
  case movToM r =>
    have hp : profile (movToMOf r) s = (none, [], [addrM s], none, s.pc.toNat + 1) := by cases r <;> rfl
    exact exec_of_profile (exec_movToMOf r s) hp (finish_memWrite (finish_advance_eq rfl))
  case mvi r d8 => exact exec_sequential (exec_mviOf r d8 s) rfl (by cases r <;> rfl)
  case mviM d8 => exact exec_of_profile rfl rfl (finish_memWrite (finish_advance_eq rfl))
  case lxi p d16 => exact exec_sequential (exec_lxiOf p d16 s) (by simp) (by rcases p with (_ | _ | _) | _ <;> rfl)
  case aluReg op r =>
    exact exec_sequential (exec_aluRegOf op r s) (by simp) (by cases op <;> cases r <;> rfl)
  case aluM op =>
    have hp : profile (aluMOf op) s = (none, [addrM s], [], none, s.pc.toNat + 1) := by cases op <;> rfl
    exact exec_of_profile (exec_aluMOf op s) hp (finish_memRead (finish_advance_eq (applyAlu_pc op _ s)))
  case aluImm op d8 => exact exec_sequential (exec_aluImmOf op d8 s) (by simp) (by cases op <;> rfl)
  case inr r => exact exec_sequential (exec_inrOf r s) rfl (by cases r <;> rfl)
  case dcr r => exact exec_sequential (exec_dcrOf r s) rfl (by cases r <;> rfl)
  case inrM | dcrM =>
    exact exec_of_profile rfl rfl (finish_memRead (finish_memWrite (finish_advance_eq rfl)))
  case inx p => exact exec_sequential (exec_inxOf p s) (by simp) (by rcases p with (_ | _ | _) | _ <;> rfl)
  case dcx p => exact exec_sequential (exec_dcxOf p s) (by simp) (by rcases p with (_ | _ | _) | _ <;> rfl)
  case dad p => exact exec_sequential (exec_dadOf p s) rfl (by rcases p with (_ | _ | _) | _ <;> rfl)
  case hlt => exact exec_jump (target := s.pc) rfl rfl
  case staxB | staxD | sta => exact exec_of_profile rfl rfl (finish_memWrite (finish_advance_eq rfl))
  case ldaxB | ldaxD | lda => exact exec_of_profile rfl rfl (finish_memRead (finish_advance_eq rfl))
  case shld a16 => exact exec_of_profile rfl rfl (finish_memWrite16 (finish_advance_eq rfl))
  case lhld a16 => exact exec_of_profile rfl rfl (finish_memRead16 (finish_advance_eq rfl))
  case inAnswered p8 v hv =>
    exact exec_sequential (len := 2) (by simp only [exec, execInPort, inputPort, hv]) rfl rfl
  case inUnanswered p8 hv =>
    exact exec_sequential (len := 2) (by simp only [exec, execInPort, inputPort, hv]) rfl rfl
  case jmp a16 => exact exec_jump (target := a16) rfl rfl
  case pchl => exact exec_jump (target := s.regPair .HL) rfl rfl
  case jcc c a16 =>
    cases h : condHolds c s.flags
    · exact exec_sequential (by simp [exec_jccOf, jumpIf, h]) rfl (profile_jcc_untaken a16 h)
    · exact exec_jump (by simp [exec_jccOf, jumpIf, h]) (profile_jcc_taken a16 h)
  case call a16 => exact exec_call (target := a16) rfl rfl
  case cccTaken c a16 h => exact exec_call (by simp [exec_cccOf, callIf, h]) (profile_ccc_taken a16 h)
  case cccUntaken c a16 h =>
    exact exec_sequential (by simp [exec_cccOf, callIf, h]) rfl (profile_ccc_untaken a16 h)
  case rst n => exact exec_call (exec_rstOf n s) (profile_rst n s)
  case ret => exact exec_return rfl rfl
  case rccTaken c h => exact exec_return (by simp [exec_rccOf, returnIf, h]) (profile_rcc_taken h)
  case rccUntaken c h => exact exec_sequential (by simp [exec_rccOf, returnIf, h]) rfl (profile_rcc_untaken h)
  case push p =>
    have hp : profile (pushOf p) s = (none, [], pushAddrs s, none, s.pc.toNat + 1) := by cases p <;> rfl
    exact exec_of_profile (exec_pushOf p s) hp (finish_push16 (finish_advance_eq rfl))
  case pushPSW => exact exec_of_profile rfl rfl (finish_push16 (finish_advance_eq rfl))
  case pop p =>
    have hp : profile (popOf p) s = (none, popAddrs s, [], tooWide (s.sp.toNat + 2), s.pc.toNat + 1) := by
      cases p <;> rfl
    exact exec_of_profile (exec_popOf p s) hp
      (finish_pop16 (finish_advance_eq (t := s.popped.setRegPair p (topOfStack s)) rfl))
  case popPSW => exact exec_of_profile rfl rfl (finish_pop16 (finish_advance_eq rfl))
  case xthl => exact exec_of_profile rfl rfl (finish_memRead16 (finish_memWrite16 (finish_advance_eq rfl)))
  all_goals exact exec_sequential rfl rfl rfl

/-- What an instruction that answers `t` has done: it took the first fault of the table, or it completed. -/
theorem exec_cases {i : Instr} {s t : State} (h : exec i s = .next t) :
    (∃ k, execFault i s = some k ∧ t = takeFault k s)
      ∨ (execFault i s = none ∧ ∃ u, Effect s i u ∧ t = { u with pc := BitVec.ofNat 16 (nextPC i s) }) := by
  obtain ⟨u, hu⟩ := effect_exists i s
  rw [exec_eq hu] at h
  cases h
  cases hf : execFault i s with
  | none => exact .inr ⟨rfl, u, hu, by rw [concluded, hf]; rfl⟩
  | some k => exact .inl ⟨k, rfl, by rw [concluded, hf]; rfl⟩

/-- What an instruction with effect `u` answers when it raises no fault: `u` with the next PC. -/
theorem exec_completes {s t u : State} {i : Instr} (hu : Effect s i u) (h : exec i s = .next t) (ht : t.fault = none) :
    t = { u with pc := BitVec.ofNat 16 (nextPC i s) } := by
  rw [exec_eq hu, concluded] at h
  cases hf : execFault i s with
  | none =>
    rw [hf] at h
    cases h
    rfl
  | some k =>
    rw [hf] at h
    cases h
    cases ht

/-- Everything a step that answers a next state can do. -/
theorem step_cases {s t : State} (h : step s = .next t) :
    (∃ k, fetch s = .error k ∧ t = takeFault k s) ∨ ∃ i, fetch s = .ok i ∧ exec i s = .next t := by
  obtain ⟨hh, hf⟩ := step_next_running h
  rw [step_running hf hh] at h
  cases hfetch : fetch s with
  | error k =>
    rw [hfetch] at h
    exact .inl ⟨k, rfl, by cases h; rfl⟩
  | ok i =>
    rw [hfetch] at h
    exact .inr ⟨i, rfl, h⟩

end Sys2Proof.Machine
end

section
/-! PROOFS. The frame of an effect: what each row leaves unchanged, piece of state by piece of state. -/
namespace Sys2Proof.Machine

open Sys2Proof.Safety

variable {s u : State} {i : Instr}

/-! ## What no effect writes -/

theorem Effect.fault (h : Effect s i u) : u.fault = s.fault := by cases h <;> simp

theorem Effect.config (h : Effect s i u) : u.config = s.config := by cases h <;> simp

/-! ## INTE, HALTED, the trace and SP -/

theorem Effect.inte (h : Effect s i u) : u.inte = s.inte ∨ i = .ei ∨ i = .di := by cases h <;> simp

theorem Effect.halted (h : Effect s i u) : u.halted = s.halted ∨ i = .hlt := by cases h <;> simp

theorem Effect.portOut (h : Effect s i u) : u.portOut = s.portOut ∨ ∃ p, i = .outPort p := by
  cases h <;> simp

theorem Effect.sp (h : Effect s i u) : u.sp = s.sp ∨ writesSP i = true := by
  cases h
  case lxi p _ | inx p | dcx p => rcases p with p | _ <;> [exact .inl rfl; exact .inr rfl]
  case aluReg | aluM | aluImm => exact .inl (applyAlu_sp _ _ s)
  case cccTaken c _ _ | rccTaken c _ => exact .inr (by cases c <;> rfl)
  case rst n => exact .inr (by unfold rstOf; split <;> rfl)
  case push p | pop p => exact .inr (by cases p <;> rfl)
  case call | ret | pushPSW | popPSW | sphl => exact .inr rfl
  all_goals exact .inl rfl

/-! ## General registers -/

theorem Regs.get_set_of_not_mem {x : Regs} {d r : Reg} {v : Byte} {l : List Reg} (hd : d ∈ l) (hr : r ∉ l) :
    (x.set d v).get r = x.get r :=
  Regs.get_set_other x d r v (fun h => hr (h ▸ hd))

theorem Regs.get_setPair_of_not_mem {x : Regs} {p : RegPair} {r : Reg} {v : Word} {l : List Reg}
    (hp : [highReg p, lowReg p] ⊆ l) (hr : r ∉ l) : (x.setPair p v).get r = x.get r := by
  have hhigh : highReg p ∈ l := hp (by simp)
  have hlow : lowReg p ∈ l := hp (by simp)
  rw [Regs.setPair, Regs.get_set_of_not_mem hlow hr, Regs.get_set_of_not_mem hhigh hr]

theorem State.get_setPair_of_not_mem {p : Pair} {r : Reg} {v : Word} {l : List Reg}
    (hp : ∀ q, p = .rp q → [highReg q, lowReg q] ⊆ l) (hr : r ∉ l) :
    (s.setPair p v).regs.get r = s.regs.get r := by
  cases p with
  | rp q => exact Regs.get_setPair_of_not_mem (hp q rfl) hr
  | SP => rfl

theorem applyAlu_get_of_not_mem {op : AluOp} {v : Byte} {r : Reg} {l : List Reg} (hA : op ≠ .CMP → .A ∈ l)
    (hr : r ∉ l) : (applyAlu op v s).regs.get r = s.regs.get r := by
  cases op
  case CMP => rfl
  all_goals exact Regs.get_set_of_not_mem (hA (by simp)) hr

/-- A general register outside the destinations of the rule is left as it is (R10). -/
theorem Effect.regs (h : Effect s i u) {r : Reg} (hr : r ∉ regsWritten i) : u.regs.get r = s.regs.get r := by
  cases h
  case mov d q => exact Regs.get_set_of_not_mem (by cases d <;> cases q <;> exact .head _) hr
  case movFromM d | mvi d _ | inr d | dcr d => exact Regs.get_set_of_not_mem (by cases d <;> exact .head _) hr
  case lxi p _ | inx p | dcx p =>
    exact State.get_setPair_of_not_mem (by rintro q rfl; cases q <;> exact List.Subset.refl _) hr
  case dad p =>
    exact Regs.get_setPair_of_not_mem (by rcases p with (_ | _ | _) | _ <;> exact List.Subset.refl _) hr
  case pop p => exact Regs.get_setPair_of_not_mem (by cases p <;> exact List.Subset.refl _) hr
  case lhld | xthl => exact Regs.get_setPair_of_not_mem (List.Subset.refl _) hr
  case xchg =>
    have hDE : [highReg .DE, lowReg .DE] ⊆ regsWritten .xchg := by decide
    have hHL : [highReg .HL, lowReg .HL] ⊆ regsWritten .xchg := by decide
    exact (Regs.get_setPair_of_not_mem hHL hr).trans (Regs.get_setPair_of_not_mem hDE hr)
  case aluReg op q =>
    exact applyAlu_get_of_not_mem (by cases op <;> cases q <;> simp [aluRegOf, regsWritten.eq_def]) hr
  case aluM op => exact applyAlu_get_of_not_mem (by cases op <;> simp [aluMOf, regsWritten.eq_def]) hr
  case aluImm op d8 => exact applyAlu_get_of_not_mem (by cases op <;> simp [aluImmOf, regsWritten.eq_def]) hr
  case rlc | rrc | ral | rar | daa | cma | ldaxB | ldaxD | lda | inAnswered | popPSW =>
    exact Regs.get_set_of_not_mem (.head _) hr
  all_goals rfl

/-! ## Flags -/

theorem mem_allFlags (f : FlagName) : f ∈ [FlagName.Z, .S, .P, .CY, .AC] := by cases f <;> decide

theorem flagValue_setCarry_of_not_mem {F : Flags} {c : Bool} {f : FlagName} (hf : f ∉ [FlagName.CY]) :
    flagValue { F with CY := c } f = flagValue F f := by
  cases f
  case CY => exact absurd (List.mem_singleton.mpr rfl) hf
  all_goals rfl

theorem flagValue_of_not_mem_zspAC {F G : Flags} {f : FlagName} (hCY : G.CY = F.CY)
    (hf : f ∉ [FlagName.Z, .S, .P, .AC]) : flagValue G f = flagValue F f := by
  cases f
  case CY => exact hCY
  all_goals exact absurd (by decide) hf

/-- A flag outside the instruction's row of R16 is left as it is. -/
theorem Effect.flags (h : Effect s i u) {f : FlagName} (hf : f ∉ flagsWritten i) :
    flagValue u.flags f = flagValue s.flags f := by
  cases h
  case aluReg op r =>
    have hall : flagsWritten (aluRegOf op r) = [.Z, .S, .P, .CY, .AC] := by cases op <;> cases r <;> rfl
    exact absurd (hall ▸ mem_allFlags f) hf
  case aluM op =>
    have hall : flagsWritten (aluMOf op) = [.Z, .S, .P, .CY, .AC] := by cases op <;> rfl
    exact absurd (hall ▸ mem_allFlags f) hf
  case aluImm op d8 =>
    have hall : flagsWritten (aluImmOf op d8) = [.Z, .S, .P, .CY, .AC] := by cases op <;> rfl
    exact absurd (hall ▸ mem_allFlags f) hf
  case daa | popPSW => exact absurd (mem_allFlags f) hf
  case inr r =>
    have hrow : flagsWritten (inrOf r) = [.Z, .S, .P, .AC] := by cases r <;> rfl
    exact flagValue_of_not_mem_zspAC rfl (hrow ▸ hf)
  case dcr r =>
    have hrow : flagsWritten (dcrOf r) = [.Z, .S, .P, .AC] := by cases r <;> rfl
    exact flagValue_of_not_mem_zspAC rfl (hrow ▸ hf)
  case inrM | dcrM => exact flagValue_of_not_mem_zspAC rfl hf
  case dad p =>
    have hrow : flagsWritten (dadOf p) = [.CY] := by rcases p with (_ | _ | _) | _ <;> rfl
    exact flagValue_setCarry_of_not_mem (hrow ▸ hf)
  case rlc | rrc | ral | rar | stc | cmc => exact flagValue_setCarry_of_not_mem hf
  all_goals simp

/-- An accumulator operation on any source. -/
theorem effect_source (op : AluOp) (src : Source) (s : State) :
    Effect s (src.instr op) (applyAlu op (src.value s) s) := by
  cases src with
  | reg r => exact .aluReg op r
  | M => exact .aluM op
  | imm d8 => exact .aluImm op d8

/-- The instructions of the bitwise row of R16 are ANA, XRA and ORA, on each source. -/
theorem source_of_isBitwise {i : Instr} (h : isBitwise i = true) :
    ∃ (src : Source) (op : AluOp), (op = .ANA ∨ op = .XRA ∨ op = .ORA) ∧ i = src.instr op := by
  cases family_of i
  case aluReg op r => exact ⟨.reg r, op, by cases op <;> cases r <;> revert h <;> decide, rfl⟩
  case aluM op => exact ⟨.M, op, by cases op <;> revert h <;> decide, rfl⟩
  case aluImm op d8 =>
    refine ⟨.imm d8, op, ?_, rfl⟩
    cases op
    case ANA | XRA | ORA => decide
    all_goals cases h
  case mov d r => cases d <;> cases r <;> cases h
  case movFromM r | movToM r | mvi r _ | inr r | dcr r => cases r <;> cases h
  case lxi p _ | inx p | dcx p | dad p => rcases p with (_ | _ | _) | _ <;> cases h
  case jcc c _ | ccc c _ => cases c <;> cases h
  case rcc c => cases c <;> cases h
  case rst n => unfold rstOf at h; split at h <;> cases h
  case push p | pop p => cases p <;> cases h
  all_goals cases h

theorem applyAlu_bitwise_flags {op : AluOp} (h : op = .ANA ∨ op = .XRA ∨ op = .ORA) (v : Byte) (s : State) :
    (applyAlu op v s).flags.CY = false ∧ (applyAlu op v s).flags.AC = false := by
  rcases h with rfl | rfl | rfl <;> exact ⟨rfl, rfl⟩

/-! ## Memory -/

/-- Write bytes at addresses, the first of the list first. -/
def Memory.storeAll (m : Memory) (cells : List (Int × Byte)) : Memory :=
  cells.foldl (fun m cell => m.set cell.1.toNat cell.2) m

/-- What is stored is stored at the addresses R35 lists, in their order. -/
theorem Effect.mem (h : Effect s i u) :
    u.mem = s.mem ∨ ∃ cells, cells.map Prod.fst = writeAddrs i s ∧ u.mem = s.mem.storeAll cells := by
  cases h
  case movToM r => exact .inr ⟨[(addrM s, _)], by cases r <;> rfl, rfl⟩
  case mviM | inrM | dcrM => exact .inr ⟨[(addrM s, _)], rfl, rfl⟩
  case staxB | staxD | sta => exact .inr ⟨[(_, _)], rfl, rfl⟩
  case shld | xthl | call | pushPSW => exact .inr ⟨[(_, _), (_, _)], rfl, rfl⟩
  case cccTaken c a16 h =>
    have hw : pushAddrs s = writeAddrs (cccOf c a16) s := congrArg (·.2.2.1) (profile_ccc_taken a16 h).symm
    exact .inr ⟨[(_, _), (_, _)], hw, rfl⟩
  case rst n =>
    have hw : pushAddrs s = writeAddrs (rstOf n) s := congrArg (·.2.2.1) (profile_rst n s).symm
    exact .inr ⟨[(_, _), (_, _)], hw, rfl⟩
  case push p => exact .inr ⟨[(addrOf s.sp - 1, _), (addrOf s.sp - 2, _)], by cases p <;> rfl, rfl⟩
  case lxi p _ | inx p | dcx p => exact .inl (State.setPair_mem s p _)
  case aluReg | aluM | aluImm => exact .inl (applyAlu_mem _ _ s)
  all_goals exact .inl rfl

theorem Memory.storeAll_wf {m : Memory} (cells : List (Int × Byte)) (h : m.wf = true) : (m.storeAll cells).wf = true := by
  induction cells generalizing m with
  | nil => exact h
  | cons cell rest ih => exact ih (Memory.set_wf _ _ h)

theorem Memory.storeAll_within {m : Memory} {size : Nat} (cells : List (Int × Byte)) (h : m.within size = true)
    (hcells : ∀ a ∈ cells.map Prod.fst, a.toNat < size) : (m.storeAll cells).within size = true := by
  induction cells generalizing m with
  | nil => exact h
  | cons cell rest ih =>
    simp only [List.map_cons, List.forall_mem_cons] at hcells
    exact ih (Memory.set_within _ h hcells.1) hcells.2

theorem inMemory_toNat_lt {a : Int} (h : s.inMemory a = true) : a.toNat < s.config.memSize := by
  obtain ⟨hlo, hhi⟩ := (inMemory_iff s a).mp h
  omega

/-- An instruction that raises no fault writes to addresses of memory only. -/
theorem inMemory_of_execFault_none (h : execFault i s = none) : ∀ a ∈ writeAddrs i s, s.inMemory a = true := by
  simp only [execFault, accessFault, Option.orElse_eq_none, List.findSome?_eq_none_iff] at h
  obtain ⟨⟨-, -, hwrites, -⟩, -⟩ := h
  intro a ha
  by_contra hout
  exact absurd ((outside_of_not_inMemory hout).symm.trans (hwrites a ha)) (by simp)

/-! ## Reading memory after writing it -/

theorem Memory.get_of_lt {lo a : Nat} {m : Memory} (h : Memory.wfFrom lo m = true) (ha : a < lo) :
    m.get a = Memory.unlisted := by
  induction m generalizing lo with
  | nil => rfl
  | cons c rest ih =>
    obtain ⟨k, w⟩ := c
    simp only [Memory.wfFrom, Bool.and_eq_true, decide_eq_true_eq] at h
    obtain ⟨⟨hk, -⟩, hrest⟩ := h
    rw [Memory.get, if_neg (by omega), ih hrest (by omega)]

/-- Reading after writing, for memory in canonical form. -/
theorem Memory.get_set_of_wfFrom {lo : Nat} {m : Memory} (h : Memory.wfFrom lo m = true) (a b : Nat) (v : Byte) :
    (m.set a v).get b = if b = a then v else m.get b := by
  induction m generalizing lo with
  | nil =>
    by_cases hv : v = Memory.unlisted <;> simp [Memory.set, Memory.get, hv]
  | cons c rest ih =>
    obtain ⟨k, w⟩ := c
    simp only [Memory.wfFrom, Bool.and_eq_true, decide_eq_true_eq] at h
    obtain ⟨-, hrest⟩ := h
    rcases lt_trichotomy a k with hlt | rfl | hgt
    · have hbelow : Memory.get ((k, w) :: rest) a = Memory.unlisted := by
        rw [Memory.get, if_neg hlt.ne, Memory.get_of_lt hrest (by omega)]
      by_cases hv : v = Memory.unlisted
      · rw [Memory.set, if_pos hlt, if_pos hv]
        by_cases hb : b = a
        · rw [if_pos hb, hb, hbelow, hv]
        · rw [if_neg hb]
      · rw [Memory.set, if_pos hlt, if_neg hv, Memory.get]
    · have hbelow : Memory.get rest a = Memory.unlisted := Memory.get_of_lt hrest (by omega)
      by_cases hb : b = a <;> by_cases hv : v = Memory.unlisted <;> simp [Memory.set, Memory.get, hb, hv, hbelow]
    · by_cases hb : b = k
      · simp [Memory.set, Memory.get, hgt.not_gt, hgt.ne', hb, hgt.ne]
      · simp [Memory.set, Memory.get, hgt.not_gt, hgt.ne', hb, ih hrest]

theorem Memory.get_set {m : Memory} (h : m.wf = true) (a b : Nat) (v : Byte) :
    (m.set a v).get b = if b = a then v else m.get b := Memory.get_set_of_wfFrom h a b v

/-- A loaded byte string reads back from where it was loaded, and elsewhere memory is as before. -/
theorem Memory.get_load {m : Memory} (h : m.wf = true) (a b : Nat) (bytes : List Byte) :
    (m.load a bytes).get b = if a ≤ b then bytes.getD (b - a) (m.get b) else m.get b := by
  induction bytes generalizing m a with
  | nil => simp [Memory.load]
  | cons x rest ih =>
    rw [Memory.load, ih (Memory.set_wf a x h), Memory.get_set h]
    rcases lt_trichotomy b a with hlt | rfl | hgt
    · simp [hlt.not_ge, hlt.ne, show ¬ a + 1 ≤ b by omega]
    · simp
    · have hsucc : b - a = (b - (a + 1)) + 1 := by omega
      rw [if_pos (by omega), if_pos hgt.le, if_neg hgt.ne', hsucc, List.getD_cons_succ]

end Sys2Proof.Machine
end

section
/-! PROOFS. The state's statements: reset, the invariant, the next PC, and the frame of every instruction. -/
namespace Sys2Proof.Machine

open Sys2Proof.Safety

/-! ## The invariant -/

theorem endsOnce_iff (s : State) : endsOnce s = true ↔ s.halted = false ∨ s.fault = none := by
  cases hh : s.halted <;> cases hf : s.fault <;> simp [endsOnce, hh, hf]

theorem wellFormed_iff (s : State) :
    wellFormed s = true ↔ s.config.wellFormed = true ∧ s.mem.wf = true ∧ s.mem.within s.config.memSize = true
      ∧ (s.halted = false ∨ s.fault = none) := by
  simp only [wellFormed, Bool.and_eq_true, endsOnce_iff, and_assoc]

theorem wellFormed_takeFault {s : State} (k : Fault) (hs : wellFormed s = true) (hh : s.halted = false) :
    wellFormed (takeFault k s) = true := by
  obtain ⟨hc, hm, hw, -⟩ := (wellFormed_iff s).mp hs
  exact (wellFormed_iff _).mpr ⟨hc, hm, hw, .inl hh⟩

/-- Memory after an effect, of an instruction that raises no fault, keeps its form and its bound. -/
theorem Effect.mem_wellFormed {s u : State} {i : Instr} (h : Effect s i u) (hf : execFault i s = none)
    (hm : s.mem.wf = true) (hw : s.mem.within s.config.memSize = true) :
    u.mem.wf = true ∧ u.mem.within s.config.memSize = true := by
  obtain hmem | ⟨cells, haddrs, hmem⟩ := h.mem
  · rw [hmem]
    exact ⟨hm, hw⟩
  · rw [hmem]
    refine ⟨Memory.storeAll_wf cells hm, Memory.storeAll_within cells hw ?_⟩
    rw [haddrs]
    exact fun a ha => inMemory_toNat_lt (inMemory_of_execFault_none hf a ha)

theorem exec_keeps_wellFormed {s t : State} {i : Instr} (hs : wellFormed s = true) (hh : s.halted = false)
    (hfault : s.fault = none) (h : exec i s = .next t) : wellFormed t = true := by
  obtain ⟨k, -, rfl⟩ | ⟨hf, u, hu, rfl⟩ := exec_cases h
  · exact wellFormed_takeFault k hs hh
  · obtain ⟨hc, hm, hw, -⟩ := (wellFormed_iff s).mp hs
    obtain ⟨hm', hw'⟩ := hu.mem_wellFormed hf hm hw
    refine (wellFormed_iff _).mpr ⟨?_, hm', ?_, .inr (hu.fault.trans hfault)⟩
    · show u.config.wellFormed = true
      rw [hu.config, hc]
    · show u.mem.within u.config.memSize = true
      rw [hu.config, hw']

/-- Settles O28: a fault changes only the latch of a core that is not halted; an effect writes bytes of memory only. -/
theorem stepKeepsWellFormedState : Obligations.StepKeepsWellFormedState := by
  intro s t hs h
  obtain ⟨hh, hfault⟩ := step_next_running h
  obtain ⟨k, -, rfl⟩ | ⟨i, -, hexec⟩ := step_cases h
  · exact wellFormed_takeFault k hs hh
  · exact exec_keeps_wellFormed hs hh hfault hexec

/-! ## Register pairs and the flags byte -/

theorem hiByte_eq_ofNat (v : Word) : hiByte v = BitVec.ofNat 8 (v.toNat / 256) := by
  rw [← toNat_hiByte, BitVec.ofNat_toNat, BitVec.setWidth_eq]

theorem loByte_eq_ofNat (v : Word) : loByte v = BitVec.ofNat 8 (v.toNat % 256) := by
  rw [← toNat_loByte, BitVec.ofNat_toNat, BitVec.setWidth_eq]

@[simp] theorem Regs.getPair_setPair (x : Regs) (p : RegPair) (v : Word) : (x.setPair p v).getPair p = v := by
  cases p <;> simp [Regs.getPair, Regs.setPair, highReg, lowReg]

/-- Settles O8, by the two bytes of a 16-bit value in numbers. -/
theorem pairViewsHighByteFirst : Obligations.PairViewsHighByteFirst := by
  intro s v
  refine ⟨toNat_joinBytes _ _, toNat_joinBytes _ _, toNat_joinBytes _ _, rfl, ?_, ?_, ?_, rfl, ?_⟩
  · rw [← hiByte_eq_ofNat, ← loByte_eq_ofNat]; rfl
  · rw [← hiByte_eq_ofNat, ← loByte_eq_ofNat]; rfl
  · rw [← hiByte_eq_ofNat, ← loByte_eq_ofNat]; rfl
  · rintro (p | _)
    · exact Regs.getPair_setPair s.regs p v
    · rfl

theorem toNat_flagsByte (f : Flags) : (flagsByte f).toNat =
    128 * f.S.toNat + 64 * f.Z.toNat + 16 * f.AC.toNat + 4 * f.P.toNat + 2 + f.CY.toNat := by
  obtain ⟨z, s, p, cy, ac⟩ := f
  revert z s p cy ac
  decide

@[simp] theorem flagsOfByte_flagsByte (f : Flags) : flagsOfByte (flagsByte f) = f := by
  obtain ⟨z, s, p, cy, ac⟩ := f
  revert z s p cy ac
  decide

/-- Bits 5, 3 and 1, which the mask clears, are not looked at. -/
theorem flagsOfByte_mask (b : Byte) : flagsOfByte (b &&& 0b11010101) = flagsOfByte b := by
  simp only [flagsOfByte, BitVec.getLsbD_and]
  simp

/-- Settles O10, over the 32 values of the flags and bit by bit for the byte. -/
theorem flagsByteLayout : Obligations.FlagsByteLayout :=
  ⟨toNat_flagsByte, rfl, fun _ => rfl, fun b => (flagsOfByte_mask b).symm, flagsOfByte_flagsByte⟩

/-- Both count the one bits of a byte. -/
theorem onesCount_eq_card (v : Byte) : onesCount v = (Finset.univ.filter (fun k : Fin 8 => v.getLsbD k = true)).card := by
  calc onesCount v = ((Finset.range 8).filter (fun k => v.getLsbD k = true)).card := by
        rw [onesCount, Finset.card, Finset.filter_val, Finset.range_val, Multiset.range, Multiset.filter_coe,
          Multiset.coe_card]
        simp
    _ = _ := by rw [Finset.card_filter, Finset.card_filter, Finset.sum_range]

/-- Settles O9: bit 7 is the sign of the numeric value, and the one bits are counted as a set. -/
theorem resultFlagsFollowValue : Obligations.ResultFlagsFollowValue := by
  intro v cy ac
  refine ⟨?_, ?_, ?_, rfl, rfl⟩
  · simp [zspWith, ← BitVec.toNat_inj]
  · show v.getLsbD 7 = true ↔ _
    rw [show v.getLsbD 7 = v.msb from rfl, BitVec.msb_eq_decide, decide_eq_true_eq]
  · simp [zspWith, parity, onesCount_eq_card, Nat.even_iff]

/-! ## Stepping and reset -/

/-- Settles O22: a running core fetches, and `exec` always answers a next state. -/
theorem stepStopsAfterHaltOrFault : Obligations.StepStopsAfterHaltOrFault := by
  refine ⟨fun s k hf => by simp [step, hf], fun s hf hh => by simp [step, hf, hh], ?_⟩
  rintro s ⟨hh, hf⟩
  rw [step_running hf hh]
  cases fetch s with
  | error k => exact ⟨_, rfl⟩
  | ok i =>
    obtain ⟨u, hu⟩ := effect_exists i s
    exact ⟨_, exec_eq hu⟩

/-- Settles O29, by evaluating the reset state. -/
theorem resetIsWellFormed : Obligations.ResetIsWellFormed :=
  ⟨by decide, ⟨rfl, rfl⟩, rfl⟩

/-- The state `resetWith` answers is well-formed when the image fits (R22, R261). -/
theorem wellFormed_resetWith {c : Config} {image : List Byte} {t : State} (hc : c.wellFormed = true)
    (h : resetWith c image = .next t) : wellFormed t = true := by
  unfold resetWith at h
  split at h
  · rename_i hfit
    cases h
    have hwithin := Memory.load_within (m := []) (a := 0) image rfl (by simpa using hfit)
    exact (wellFormed_iff _).mpr ⟨hc, Memory.load_wf 0 image rfl, hwithin, .inl rfl⟩
  · cases h

/-- Settles O30: the fields are those of the reset table, and memory is the image loaded into zeros. -/
theorem resetLoadsImage : Obligations.ResetLoadsImage := by
  intro c image hc
  refine ⟨fun hfit => ?_, fun hlong => if_neg (by omega)⟩
  have hreset : resetWith c image =
      .next { State.reset with config := c, sp := c.spReset, mem := Memory.load [] 0 image } := if_pos hfit
  have hmem (k : Nat) : (Memory.load [] 0 image).get k = image.getD k 0x00 := by
    rw [Memory.get_load rfl, if_pos (Nat.zero_le k)]
    rfl
  exact ⟨_, hreset, rfl, rfl, rfl, rfl, rfl, rfl, rfl, rfl, rfl, rfl, rfl, rfl, rfl, rfl, rfl, rfl, rfl,
    fun k _ => hmem k, rfl, rfl, wellFormed_resetWith hc hreset⟩

/-! ## The next PC -/

/-- Settles O31: the next PC is the table's in every row; a first fault in it is the table's last. -/
theorem nextPCSequencing : Obligations.NextPCSequencing := by
  intro i s hs
  refine ⟨fun t h ht => ?_, fun haccess hwide => ?_⟩
  · obtain ⟨k, -, rfl⟩ | ⟨hf, u, -, rfl⟩ := exec_cases h
    · cases ht
    · simp only [execFault, Option.orElse_eq_none] at hf
      have hle := le_of_tooWide hf.2
      simp only [BitVec.toNat_ofNat]
      omega
  · obtain ⟨u, hu⟩ := effect_exists i s
    have hf : execFault i s = some (.boundsError (nextPC i s)) := by
      rw [execFault, haccess, tooWide_of_not_le (by omega)]
      rfl
    rw [exec_eq hu, concluded, hf]
    rfl

/-! ## What an instruction leaves unchanged -/

/-- Settles O34: a fault changes the latch alone; else by the rows of the effect. -/
theorem registersChangeOnlyWhereNamed : Obligations.RegistersChangeOnlyWhereNamed := by
  intro i s t h
  obtain ⟨k, -, rfl⟩ | ⟨-, u, hu, rfl⟩ := exec_cases h
  · exact ⟨fun _ _ => rfl, fun _ => rfl⟩
  · exact ⟨fun _ hr => hu.regs hr, fun hsp => hu.sp.resolve_right (by simp [hsp])⟩

/-- Settles O35: a fault changes the latch alone; else by the rows of the effect. -/
theorem controlStateChangesOnlyWhereNamed : Obligations.ControlStateChangesOnlyWhereNamed := by
  intro i s t h
  obtain ⟨k, -, rfl⟩ | ⟨-, u, hu, rfl⟩ := exec_cases h
  · exact ⟨fun _ _ => rfl, fun _ => rfl, fun _ => rfl, rfl⟩
  · exact ⟨fun hei hdi => hu.inte.resolve_right (by simp [hei, hdi]), fun hhlt => hu.halted.resolve_right hhlt,
      fun hout => hu.portOut.resolve_right (by simpa using hout), hu.config⟩

/-- Settles O32: the rows of the effect; and the bitwise operations and STC by their own effects. -/
theorem flagsChangeOnlyWhereTabled : Obligations.FlagsChangeOnlyWhereTabled := by
  intro i s t h
  refine ⟨fun f hf => ?_, fun _ ht hbit => ?_, fun _ ht hstc => ?_⟩
  · obtain ⟨k, -, rfl⟩ | ⟨-, u, hu, rfl⟩ := exec_cases h
    · rfl
    · exact hu.flags hf
  · obtain ⟨src, op, hop, rfl⟩ := source_of_isBitwise hbit
    rw [exec_completes (effect_source op src s) h ht]
    exact applyAlu_bitwise_flags hop (src.value s) s
  · subst hstc
    rw [exec_completes .stc h ht]
    rfl

/-! ## INTE -/

/-- INTE after an instruction that completes, when it was `b` before (R19). -/
def inteAfter (i : Instr) (b : Bool) : Bool := if i = .ei then true else if i = .di then false else b

/-- An effect but for that of EI and DI takes INTE along, at either value. -/
theorem Effect.withInte {s u : State} {i : Instr} (h : Effect s i u) (hei : i ≠ .ei) (hdi : i ≠ .di) (b : Bool) :
    Effect { s with inte := b } i { u with inte := b } := by
  cases h
  case mov d r => exact .mov d r
  case movFromM d => exact .movFromM d
  case movToM r => exact .movToM r
  case mvi r d8 => exact .mvi r d8
  case lxi p d16 => rcases p with p | _ <;> exact .lxi _ d16
  case aluReg op r => cases op <;> exact .aluReg _ r
  case aluM op => cases op <;> exact .aluM _
  case aluImm op d8 => cases op <;> exact .aluImm _ d8
  case inr r => exact .inr r
  case dcr r => exact .dcr r
  case inx p => rcases p with p | _ <;> exact .inx _
  case dcx p => rcases p with p | _ <;> exact .dcx _
  case dad p => rcases p with p | _ <;> exact .dad _
  case jcc c a16 => exact .jcc c a16
  case cccTaken c a16 hc => exact .cccTaken c a16 hc
  case cccUntaken c a16 hc => exact .cccUntaken c a16 hc
  case rst n => exact .rst n
  case rccTaken c hc => exact .rccTaken c hc
  case rccUntaken c hc => exact .rccUntaken c hc
  case push p => exact .push p
  case pop p => exact .pop p
  case inAnswered p8 v hv => exact .inAnswered p8 v hv
  case inUnanswered p8 hv => exact .inUnanswered p8 hv
  case ei => exact absurd rfl hei
  case di => exact absurd rfl hdi
  all_goals constructor

/-- Every instruction has an effect that is the same from either value of INTE, INTE itself apart. -/
theorem effect_exists_withInte (i : Instr) (s : State) (b : Bool) :
    ∃ u, Effect s i u ∧ Effect { s with inte := b } i { u with inte := inteAfter i b } := by
  by_cases hei : i = .ei
  · subst hei
    exact ⟨_, .ei, .ei⟩
  by_cases hdi : i = .di
  · subst hdi
    exact ⟨_, .di, .di⟩
  obtain ⟨u, hu⟩ := effect_exists i s
  rw [inteAfter, if_neg hei, if_neg hdi]
  exact ⟨u, hu, hu.withInte hei hdi b⟩

theorem exec_withInte {i : Instr} {s t : State} (b : Bool) (hs : s.fault = none) (h : exec i s = .next t) :
    exec i { s with inte := b } = .next { t with inte := if t.fault.isSome then b else inteAfter i b } := by
  obtain ⟨u, hu, hub⟩ := effect_exists_withInte i s b
  have hfault : execFault i { s with inte := b } = execFault i s := rfl
  have hpc : nextPC i { s with inte := b } = nextPC i s := rfl
  rw [exec_eq hu] at h
  cases h
  rw [exec_eq hub, concluded, concluded, hfault, hpc]
  cases execFault i s with
  | none => simp [hu.fault, hs]
  | some k => rfl

theorem fetch_withInte (s : State) (b : Bool) : fetch { s with inte := b } = fetch s := rfl

theorem step_withInte {s t : State} (b : Bool) (h : step s = .next t) :
    ∃ u, step { s with inte := b } = .next u ∧ { u with inte := t.inte } = t := by
  obtain ⟨hh, hs⟩ := step_next_running h
  rw [step_running (s := { s with inte := b }) hs hh, fetch_withInte]
  obtain ⟨k, hfetch, rfl⟩ | ⟨i, hfetch, hexec⟩ := step_cases h
  · rw [hfetch]
    exact ⟨_, rfl, rfl⟩
  · rw [hfetch]
    exact ⟨_, exec_withInte b hs hexec, rfl⟩

/-- Settles O36: no check and no effect looks at INTE, and a fault leaves it. -/
theorem interruptEnableHasNoEffect : Obligations.InterruptEnableHasNoEffect :=
  ⟨fun _ _ _ b hs h => exec_withInte b hs h, fun _ _ b h => step_withInte b h⟩

end Sys2Proof.Machine
end

section
/-! PROOFS. The memory's statements: byte and two-byte accesses, what a memory holds, the stack primitives, a fetch that leaves
memory, and the memory frame of every instruction. -/
namespace Sys2Proof.Machine

open Sys2Proof.Safety

/-! ## Accesses -/

theorem inMemory_eq_false_iff (s : State) (a : Int) : s.inMemory a = false ↔ a < 0 ∨ s.config.memSize ≤ a := by
  rw [← Bool.not_eq_true, inMemory_iff]
  omega

/-- Settles O15, by the check of R31: inside memory it passes, outside it raises. -/
theorem byteAccessIsBounded : Obligations.ByteAccessIsBounded := by
  intro s a v
  refine ⟨fun hlo hhi => ?_, fun hout => ?_⟩
  · have h : s.inMemory a = true := (inMemory_iff s a).mpr ⟨hlo, hhi⟩
    rw [memRead_eq, memWrite_eq, if_pos h, if_pos h]
    exact ⟨rfl, rfl⟩
  · have h : s.inMemory a = false := (inMemory_eq_false_iff s a).mpr hout
    simp [memRead_eq, memWrite_eq, h]

/-- Settles O16: both checks pass, the first raises, or the first passes and the second raises. -/
theorem twoByteAccessIsLittleEndian : Obligations.TwoByteAccessIsLittleEndian := by
  intro s a w
  refine ⟨fun hlo hhi => ?_, fun hout => ?_, fun hlo hend => ?_⟩
  · have hfirst : s.inMemory a = true := (inMemory_iff s a).mpr ⟨hlo, by omega⟩
    have hsecond : s.inMemory (a + 1) = true := (inMemory_iff s (a + 1)).mpr ⟨by omega, hhi⟩
    rw [memRead16_eq, memWrite16_eq, ← hiByte_eq_ofNat, ← loByte_eq_ofNat]
    simp only [hfirst, hsecond, if_true]
    exact ⟨⟨_, rfl, toNat_joinBytes _ _⟩, rfl⟩
  · have hfirst : s.inMemory a = false := (inMemory_eq_false_iff s a).mpr hout
    simp [memRead16_eq, memWrite16_eq, hfirst]
  · have hfirst : s.inMemory a = true := (inMemory_iff s a).mpr ⟨hlo, by omega⟩
    have hsecond : s.inMemory (a + 1) = false := (inMemory_eq_false_iff s (a + 1)).mpr (.inr hend.ge)
    simp [memRead16_eq, memWrite16_eq, hfirst, hsecond]

/-! ## What a memory holds -/

theorem Memory.get_head_ne_unlisted {lo k : Nat} {v : Byte} {m : Memory} (h : Memory.wfFrom lo ((k, v) :: m) = true) :
    Memory.get ((k, v) :: m) k ≠ Memory.unlisted := by
  simp only [Memory.wfFrom, Bool.and_eq_true, decide_eq_true_eq] at h
  obtain ⟨⟨-, hv⟩, -⟩ := h
  rwa [Memory.get, if_pos rfl]

theorem Memory.get_of_lt_head {lo k a : Nat} {v : Byte} {m : Memory} (h : Memory.wfFrom lo ((k, v) :: m) = true)
    (ha : a < k) : Memory.get ((k, v) :: m) a = Memory.unlisted := by
  simp only [Memory.wfFrom, Bool.and_eq_true] at h
  rw [Memory.get, if_neg ha.ne, Memory.get_of_lt h.2 (by omega)]

/-- The first address listed is the lowest that reads as another byte than an unlisted one. -/
theorem Memory.head_le_of_get_eq {lo k l : Nat} {v w : Byte} {m n : Memory}
    (hm : Memory.wfFrom lo ((k, v) :: m) = true) (hn : Memory.wfFrom lo ((l, w) :: n) = true)
    (h : Memory.get ((k, v) :: m) k = Memory.get ((l, w) :: n) k) : l ≤ k := by
  by_contra hlt
  exact Memory.get_head_ne_unlisted hm (h.trans (Memory.get_of_lt_head hn (by omega)))

/-- The canonical form is determined by the bytes it holds. -/
theorem Memory.ext_of_wfFrom {lo : Nat} {m n : Memory} (hm : Memory.wfFrom lo m = true)
    (hn : Memory.wfFrom lo n = true) (h : ∀ a, m.get a = n.get a) : m = n := by
  induction m generalizing lo n with
  | nil =>
    cases n with
    | nil => rfl
    | cons d n => exact absurd (h d.1).symm (Memory.get_head_ne_unlisted hn)
  | cons c m ih =>
    cases n with
    | nil => exact absurd (h c.1) (Memory.get_head_ne_unlisted hm)
    | cons d n =>
      obtain ⟨k, v⟩ := c
      obtain ⟨l, w⟩ := d
      obtain rfl : k = l :=
        le_antisymm (Memory.head_le_of_get_eq hn hm (h l).symm) (Memory.head_le_of_get_eq hm hn (h k))
      simp only [Memory.wfFrom, Bool.and_eq_true] at hm hn
      obtain ⟨-, hm⟩ := hm
      obtain ⟨-, hn⟩ := hn
      obtain rfl : v = w := by simpa [Memory.get] using h k
      congr 1
      refine ih hm hn fun a => ?_
      rcases eq_or_ne a k with rfl | hne
      · rw [Memory.get_of_lt hm (Nat.lt_succ_self a), Memory.get_of_lt hn (Nat.lt_succ_self a)]
      · simpa [Memory.get, hne] using h a

/-- Settles O17, by reading after writing and by the canonical form being determined by its bytes. -/
theorem memoryReadsWhatWasWritten : Obligations.MemoryReadsWhatWasWritten := by
  refine ⟨fun m a b v hm => ⟨?_, fun hne => ?_⟩, fun m n hm hn h => Memory.ext_of_wfFrom hm hn h⟩
  · rw [Memory.get_set hm, if_pos rfl]
  · rw [Memory.get_set hm, if_neg hne]

/-! ## The stack -/

theorem joinBytes_eq_ofNat (hi lo : Byte) : joinBytes hi lo = BitVec.ofNat 16 (256 * hi.toNat + lo.toNat) := by
  rw [← toNat_joinBytes, BitVec.ofNat_toNat, BitVec.setWidth_eq]

/-- Settles O18: the checks of `push16_eq` and `pop16_eq`, in order; SP - 2 lies in memory when SP - 1 does and SP is 2 or
more. -/
theorem pushAndPopPrimitives : Obligations.PushAndPopPrimitives := by
  intro s v
  refine ⟨⟨fun h1 => ?_, fun h1 hneg => ?_, fun h1 hpos => ?_⟩,
    fun h0 => ?_, fun h0 h1 => ?_, fun h0 h1 hwide => ?_, fun h0 h1 hfit => ?_⟩
  · simp [push16_eq, h1]
  · have h2 : s.inMemory (addrOf s.sp - 2) = false := (inMemory_eq_false_iff s _).mpr (.inl hneg)
    simp [push16_eq, h1, h2]
  · have h2 : s.inMemory (addrOf s.sp - 2) = true := by
      obtain ⟨-, hhi⟩ := (inMemory_iff s _).mp h1
      exact (inMemory_iff s _).mpr ⟨hpos, by omega⟩
    have ha1 : (addrOf s.sp - 1).toNat = s.sp.toNat - 1 := by unfold addrOf; omega
    have ha2 : (addrOf s.sp - 2).toNat = s.sp.toNat - 2 := by unfold addrOf; omega
    have hsp : s.sp - 2 = BitVec.ofNat 16 (s.sp.toNat - 2) := by
      unfold addrOf at hpos
      bv_omega
    rw [push16_eq, if_pos h1, if_pos h2, ha1, ha2, hsp, hiByte_eq_ofNat, loByte_eq_ofNat]
  · simp [pop16_eq, h0]
  · simp [pop16_eq, h0, h1]
  · rw [pop16_eq, if_pos h0, if_pos h1, if_neg (by omega)]
    rfl
  · rw [pop16_eq, if_pos h0, if_pos h1, if_pos hfit, joinBytes_eq_ofNat]
    rfl

/-! ## A fetch that leaves memory -/

theorem step_of_fetch_error {s : State} {k : Fault} (hs : Running s) (h : fetch s = .error k) :
    step s = .next { s with fault := some k } := by
  obtain ⟨hh, hf⟩ := hs
  rw [step_running hf hh, h]
  rfl

theorem fetch_of_opcode_outside {s : State} (h : s.inMemory (addrOf s.pc) = false) :
    fetch s = .error (.boundsError (addrOf s.pc)) := by
  unfold fetch
  rw [memRead_eq, h]
  rfl

/-- What follows the fetch of a defined opcode: its operand bytes, in order. -/
theorem fetch_of_opcode_defined {s : State} (h : s.inMemory (addrOf s.pc) = true)
    (hu : opcodeAt s ∉ s.config.undefSet) :
    fetch s = do
      let b2 ← fetchOperand s (opcodeLength (opcodeAt s)) 1
      let b3 ← fetchOperand s (opcodeLength (opcodeAt s)) 2
      return decodeOpcode (opcodeAt s) b2 b3 := by
  have hread : memRead s (addrOf s.pc) = .ok (opcodeAt s) := by rw [memRead_eq, if_pos h]; rfl
  have hdefined : ¬ s.config.undefSet.contains (opcodeAt s) = true := by simpa using hu
  unfold fetch
  rw [hread]
  exact if_neg hdefined

theorem fetchOperand_outside {s : State} {len k : Nat} (hk : k < len) (h : s.inMemory (addrOf s.pc + k) = false) :
    fetchOperand s len k = .error (.boundsError (addrOf s.pc + k)) := by
  rw [fetchOperand_eq, if_pos hk, h]
  rfl

theorem fetchOperand_inside {s : State} {len k : Nat} (hk : k < len) (h : s.inMemory (addrOf s.pc + k) = true) :
    fetchOperand s len k = .ok (s.byteAt (addrOf s.pc + k)) := by
  rw [fetchOperand_eq, if_pos hk, if_pos h]

/-- Settles O24: the fetch raises at the first byte that is missing, and the step takes that fault. -/
theorem fetchOutsideMemoryFaults : Obligations.FetchOutsideMemoryFaults := by
  intro s hs
  refine ⟨fun h => ?_, fun h hu hlen h1 => ?_, fun h hu hlen h1 h2 => ?_⟩
  · exact step_of_fetch_error hs (fetch_of_opcode_outside h)
  · refine step_of_fetch_error hs ?_
    rw [fetch_of_opcode_defined h hu, fetchOperand_outside (k := 1) hlen h1]
    rfl
  · refine step_of_fetch_error hs ?_
    rw [fetch_of_opcode_defined h hu, hlen, fetchOperand_inside (k := 1) (by omega) h1,
      fetchOperand_outside (k := 2) (by omega) h2]
    rfl

/-! ## The memory frame -/

/-- Writing at one address leaves every other byte, in canonical form or not. -/
theorem Memory.get_set_of_ne (m : Memory) {a b : Nat} (v : Byte) (hne : b ≠ a) : (m.set a v).get b = m.get b := by
  induction m with
  | nil => by_cases hv : v = Memory.unlisted <;> simp [Memory.set, Memory.get, hv, hne]
  | cons c rest ih =>
    obtain ⟨k, w⟩ := c
    rcases lt_trichotomy a k with hlt | rfl | hgt
    · by_cases hv : v = Memory.unlisted <;> simp [Memory.set, Memory.get, hlt, hv, hne]
    · by_cases hv : v = Memory.unlisted <;> simp [Memory.set, Memory.get, hv, hne]
    · simp [Memory.set, Memory.get, hgt.not_gt, hgt.ne', ih]

theorem Memory.get_storeAll_of_not_mem {m : Memory} {b : Nat} (cells : List (Int × Byte))
    (h : ∀ a ∈ cells.map Prod.fst, b ≠ a.toNat) : (m.storeAll cells).get b = m.get b := by
  induction cells generalizing m with
  | nil => rfl
  | cons cell rest ih =>
    simp only [List.map_cons, List.forall_mem_cons] at h
    exact (ih h.2).trans (Memory.get_set_of_ne m cell.2 h.1)

/-- Settles O33: a fault changes the latch alone; else what the effect stores is stored at the addresses of the table, which all
lie in memory. -/
theorem memoryChangesOnlyWhereTabled : Obligations.MemoryChangesOnlyWhereTabled := by
  intro i s t h
  obtain ⟨k, -, rfl⟩ | ⟨hf, u, hu, rfl⟩ := exec_cases h
  · exact ⟨fun _ _ => rfl, fun _ => rfl⟩
  · show (∀ a : Nat, _ → u.mem.get a = s.mem.get a) ∧ (_ → u.mem = s.mem)
    obtain hmem | ⟨cells, haddrs, hmem⟩ := hu.mem
    · exact ⟨fun a _ => by rw [hmem], fun _ => hmem⟩
    · rw [hmem]
      refine ⟨fun b hb => Memory.get_storeAll_of_not_mem cells ?_, fun hnone => ?_⟩
      · rw [haddrs]
        rintro a ha rfl
        obtain ⟨hlo, -⟩ := (inMemory_iff s a).mp (inMemory_of_execFault_none hf a ha)
        exact hb (by rwa [Int.toNat_of_nonneg hlo])
      · rw [hnone, List.map_eq_nil_iff] at haddrs
        rw [haddrs]
        rfl

end Sys2Proof.Machine
end

section
/-! PROOFS. The encoding's statements. `Format` says once that each instruction has one of the three formats of R51 and how its
opcode is decoded; that opcodes and instructions name each other both ways follows from it and from the 256 opcode values. -/
namespace Sys2Proof

/-! ## The three formats (R51) -/

/-- An instruction has no operand byte, one, or two that form a 16-bit operand; decoding its opcode depends on no other byte. -/
inductive Format : Instr → Prop where
  | implied {i : Instr} (hbytes : operandBytes i = []) (hdecode : ∀ b2 b3, decodeOpcode (opcode i) b2 b3 = i) : Format i
  | byte {f : Byte → Instr} {op : Byte} (d8 : Byte) (hop : ∀ d, opcode (f d) = op) (hbytes : ∀ d, operandBytes (f d) = [d])
      (hdecode : ∀ b2 b3, decodeOpcode op b2 b3 = f b2) : Format (f d8)
  | word {f : Word → Instr} {op : Byte} (d16 : Word) (hop : ∀ d, opcode (f d) = op)
      (hbytes : ∀ d, operandBytes (f d) = [loByte d, hiByte d])
      (hdecode : ∀ b2 b3, decodeOpcode op b2 b3 = f (joinBytes b3 b2)) : Format (f d16)

theorem format_of (i : Instr) : Format i := by
  cases family_of i
  case mov d r => cases d <;> cases r <;> exact .implied rfl fun _ _ => rfl
  case movFromM d => cases d <;> exact .implied rfl fun _ _ => rfl
  case movToM r => cases r <;> exact .implied rfl fun _ _ => rfl
  case aluReg op r => cases op <;> cases r <;> exact .implied rfl fun _ _ => rfl
  case aluM op => cases op <;> exact .implied rfl fun _ _ => rfl
  case inr r => cases r <;> exact .implied rfl fun _ _ => rfl
  case dcr r => cases r <;> exact .implied rfl fun _ _ => rfl
  case inx p => rcases p with (_ | _ | _) | _ <;> exact .implied rfl fun _ _ => rfl
  case dcx p => rcases p with (_ | _ | _) | _ <;> exact .implied rfl fun _ _ => rfl
  case dad p => rcases p with (_ | _ | _) | _ <;> exact .implied rfl fun _ _ => rfl
  case push p => cases p <;> exact .implied rfl fun _ _ => rfl
  case pop p => cases p <;> exact .implied rfl fun _ _ => rfl
  case rcc c => cases c <;> exact .implied rfl fun _ _ => rfl
  case rst n => fin_cases n <;> exact .implied rfl fun _ _ => rfl
  case mvi r d8 => cases r <;> exact .byte (f := mviOf _) d8 (fun _ => rfl) (fun _ => rfl) fun _ _ => rfl
  case aluImm op d8 => cases op <;> exact .byte (f := aluImmOf _) d8 (fun _ => rfl) (fun _ => rfl) fun _ _ => rfl
  case mviM d8 => exact .byte d8 (fun _ => rfl) (fun _ => rfl) fun _ _ => rfl
  case outPort p8 => exact .byte p8 (fun _ => rfl) (fun _ => rfl) fun _ _ => rfl
  case inPort p8 => exact .byte p8 (fun _ => rfl) (fun _ => rfl) fun _ _ => rfl
  case lxi p d16 =>
    rcases p with (_ | _ | _) | _ <;> exact .word (f := lxiOf _) d16 (fun _ => rfl) (fun _ => rfl) fun _ _ => rfl
  case jcc c a16 => cases c <;> exact .word (f := jccOf _) a16 (fun _ => rfl) (fun _ => rfl) fun _ _ => rfl
  case ccc c a16 => cases c <;> exact .word (f := cccOf _) a16 (fun _ => rfl) (fun _ => rfl) fun _ _ => rfl
  case shld a16 => exact .word a16 (fun _ => rfl) (fun _ => rfl) fun _ _ => rfl
  case lhld a16 => exact .word a16 (fun _ => rfl) (fun _ => rfl) fun _ _ => rfl
  case sta a16 => exact .word a16 (fun _ => rfl) (fun _ => rfl) fun _ _ => rfl
  case lda a16 => exact .word a16 (fun _ => rfl) (fun _ => rfl) fun _ _ => rfl
  case jmp a16 => exact .word a16 (fun _ => rfl) (fun _ => rfl) fun _ _ => rfl
  case call a16 => exact .word a16 (fun _ => rfl) (fun _ => rfl) fun _ _ => rfl
  all_goals exact .implied rfl fun _ _ => rfl

/-- Decoding an instruction's opcode with any operand bytes gives an instruction of the same opcode with as many of them. -/
theorem encode_decodeOpcode_opcode (i : Instr) (b2 b3 : Byte) :
    encode (decodeOpcode (opcode i) b2 b3) = opcode i :: [b2, b3].take (i.length - 1) := by
  cases format_of i with
  | implied hbytes hdecode => simp [encode, Instr.length, hbytes, hdecode]
  | byte d8 hop hbytes hdecode => simp [encode, Instr.length, hop, hbytes, hdecode]
  | word d16 hop hbytes hdecode => simp [encode, Instr.length, hop, hbytes, hdecode]

theorem length_bounds (i : Instr) : 1 ≤ i.length ∧ i.length ≤ 3 := by
  cases format_of i with
  | implied hbytes hdecode => simp [encode, Instr.length, hbytes]
  | byte d8 hop hbytes hdecode => simp [encode, Instr.length, hbytes]
  | word d16 hop hbytes hdecode => simp [encode, Instr.length, hbytes]

@[simp] theorem length_decodeOpcode_opcode (i : Instr) (b2 b3 : Byte) : (decodeOpcode (opcode i) b2 b3).length = i.length := by
  obtain ⟨hlo, hhi⟩ := length_bounds i
  rw [Instr.length, encode_decodeOpcode_opcode]
  simp
  omega

/-! ## The opcode values -/

/-- Settles O4, opcode by opcode. -/
theorem aliasOpcodesDecodeAsCanonical : Obligations.AliasOpcodesDecodeAsCanonical := by
  intro b2 b3
  refine ⟨?_, ⟨rfl, rfl, rfl⟩, ⟨rfl, rfl, rfl⟩, ?_⟩
  · simp only [List.forall_mem_cons]
    exact ⟨⟨rfl, rfl, rfl⟩, ⟨rfl, rfl, rfl⟩, ⟨rfl, rfl, rfl⟩, ⟨rfl, rfl, rfl⟩, ⟨rfl, rfl, rfl⟩, ⟨rfl, rfl, rfl⟩,
      ⟨rfl, rfl, rfl⟩, by simp⟩
  · simp only [List.forall_mem_cons]
    exact ⟨⟨rfl, rfl, rfl⟩, ⟨rfl, rfl, rfl⟩, ⟨rfl, rfl, rfl⟩, by simp⟩

theorem opcode_decodeOpcode_zero : ∀ op : Byte, op ∉ aliasOpcodes → opcode (decodeOpcode op 0 0) = op := by decide

theorem opcode_decodeOpcode_alias : ∀ op ∈ aliasOpcodes, opcode (decodeOpcode op 0 0) ∉ aliasOpcodes := by decide

theorem opcodeLength_eq_length_zero : ∀ op : Byte, opcodeLength op = (decodeOpcode op 0 0).length := by decide

theorem exists_opcode_eq {op : Byte} (h : op ∉ aliasOpcodes) : ∃ i, opcode i = op :=
  ⟨_, opcode_decodeOpcode_zero op h⟩

/-- No instruction is encoded by an opcode of `aliasOpcodes`: the encoder writes the canonical one. -/
theorem opcode_not_alias (i : Instr) : opcode i ∉ aliasOpcodes := by
  intro h
  have hsame : opcode (decodeOpcode (opcode i) 0 0) = opcode i := by
    simpa [encode] using congrArg List.head? (encode_decodeOpcode_opcode i 0 0)
  exact opcode_decodeOpcode_alias _ h (hsame.symm ▸ h)

@[simp] theorem opcodeLength_opcode (i : Instr) : opcodeLength (opcode i) = i.length := by
  rw [opcodeLength_eq_length_zero, length_decodeOpcode_opcode]

/-- Every opcode, those of `aliasOpcodes` too, is decoded as the opcode of some instruction is. -/
theorem exists_canonical (op : Byte) : ∃ i, ∀ b2 b3, decodeOpcode op b2 b3 = decodeOpcode (opcode i) b2 b3 := by
  by_cases h : op ∈ aliasOpcodes
  · simp only [aliasOpcodes, List.mem_cons, List.not_mem_nil, or_false] at h
    rcases h with rfl | rfl | rfl | rfl | rfl | rfl | rfl | rfl | rfl | rfl | rfl | rfl
    iterate 7 exact ⟨.nop, fun _ _ => rfl⟩
    · exact ⟨.jmp 0, fun _ _ => rfl⟩
    · exact ⟨.ret, fun _ _ => rfl⟩
    iterate 3 exact ⟨.call 0, fun _ _ => rfl⟩
  · obtain ⟨i, rfl⟩ := exists_opcode_eq h
    exact ⟨i, fun _ _ => rfl⟩

theorem opcodeLength_eq_length (op b2 b3 : Byte) : opcodeLength op = (decodeOpcode op b2 b3).length := by
  obtain ⟨i, hi⟩ := exists_canonical op
  rw [opcodeLength_eq_length_zero, hi, hi, length_decodeOpcode_opcode, length_decodeOpcode_opcode]

/-- Settles O6: the length does not depend on the operand bytes, and the formats have 1, 2 and 3 bytes. -/
theorem opcodeLengthIsEncodedLength : Obligations.OpcodeLengthIsEncodedLength := by
  intro op b2 b3
  rw [opcodeLength_eq_length op b2 b3]
  exact ⟨rfl, length_bounds _⟩

/-! ## Decoding what was encoded, encoding what was decoded -/

/-- Settles O2, by the three formats. -/
theorem decodeOfEncodeIsInstruction : Obligations.DecodeOfEncodeIsInstruction := by
  intro undef i rest hundef
  have hdefined : opcode i ∉ undef := fun h => opcode_not_alias i (hundef _ h)
  have hlength := opcodeLength_opcode i
  rw [Instr.length, encode] at hlength
  rw [encode]
  cases format_of i with
  | implied hbytes hdecode =>
    rw [hbytes] at hlength ⊢
    exact (decode_length_one rest hdefined hlength).trans (by rw [hdecode])
  | byte d8 hop hbytes hdecode =>
    rw [hbytes] at hlength ⊢
    exact (decode_length_two d8 rest hdefined hlength).trans (by rw [hop, hdecode])
  | word d16 hop hbytes hdecode =>
    rw [hbytes] at hlength ⊢
    exact (decode_length_three (loByte d16) (hiByte d16) rest hdefined hlength).trans
      (by rw [hop, hdecode, joinBytes_hi_lo])

/-- Bytes that decode: a defined opcode, the operand bytes its length asks for, and the rest. -/
theorem decode_ok {undef bytes rest : List Byte} {op : Byte} {i : Instr} (h : decode undef (op :: bytes) = .ok (i, rest)) :
    op ∉ undef ∧ ((opcodeLength op = 1 ∧ bytes = rest ∧ i = decodeOpcode op 0 0)
      ∨ (∃ b2, opcodeLength op = 2 ∧ bytes = b2 :: rest ∧ i = decodeOpcode op b2 0)
      ∨ ∃ b2 b3, opcodeLength op = 3 ∧ bytes = b2 :: b3 :: rest ∧ i = decodeOpcode op b2 b3) := by
  have hdefined : op ∉ undef := fun hu => by simp [decode_undefined bytes hu] at h
  obtain ⟨-, hlo, hhi⟩ := opcodeLengthIsEncodedLength op 0 0
  refine ⟨hdefined, ?_⟩
  obtain hlen | hlen | hlen : opcodeLength op = 1 ∨ opcodeLength op = 2 ∨ opcodeLength op = 3 := by omega
  · rw [decode_length_one bytes hdefined hlen] at h
    cases h
    exact .inl ⟨hlen, rfl, rfl⟩
  · match bytes with
    | [] => simp [decode, hdefined, hlen] at h
    | b2 :: bytes =>
      rw [decode_length_two b2 bytes hdefined hlen] at h
      cases h
      exact .inr (.inl ⟨b2, hlen, rfl, rfl⟩)
  · match bytes with
    | [] => simp [decode, hdefined, hlen] at h
    | [b2] => simp [decode, hdefined, hlen] at h
    | b2 :: b3 :: bytes =>
      rw [decode_length_three b2 b3 bytes hdefined hlen] at h
      cases h
      exact .inr (.inr ⟨b2, b3, hlen, rfl, rfl⟩)

theorem encode_decodeOpcode {op : Byte} (h : op ∉ aliasOpcodes) (b2 b3 : Byte) :
    encode (decodeOpcode op b2 b3) = op :: [b2, b3].take (opcodeLength op - 1) := by
  obtain ⟨i, rfl⟩ := exists_opcode_eq h
  rw [encode_decodeOpcode_opcode, opcodeLength_opcode]

/-- Settles O3: the opcode is that of what it decodes to, which has the operand bytes that were read. -/
theorem encodeOfDecodeIsBytes : Obligations.EncodeOfDecodeIsBytes := by
  intro undef op bytes rest i halias h
  obtain ⟨-, ⟨hlen, rfl, rfl⟩ | ⟨b2, hlen, rfl, rfl⟩ | ⟨b2, b3, hlen, rfl, rfl⟩⟩ := decode_ok h <;>
    simp [encode_decodeOpcode halias, hlen]

/-- Settles O1, by running the decoder on each word. -/
theorem sampleWordsDecode : Obligations.SampleWordsDecode :=
  ⟨rfl, rfl, rfl, rfl, rfl, rfl, rfl, rfl, rfl, rfl, rfl⟩

/-! ## Quadrants 1 and 2 by formula (R60, R61); conditions (R55) -/

theorem decodeOpcode_of_fieldQ_one {op : Byte} (h : fieldQ op = 0b01#2) (b2 b3 : Byte) :
    decodeOpcode op b2 b3 = decodeQuadrant1 op := by
  rw [decodeOpcode, h]
  rfl

theorem decodeOpcode_of_fieldQ_two {op : Byte} (h : fieldQ op = 0b10#2) (b2 b3 : Byte) :
    decodeOpcode op b2 b3 = decodeQuadrant2 op := by
  rw [decodeOpcode, h]
  rfl

/-- In the opcode `base + 8 * y + z` the quadrant is that of the base, and the two lower fields are `y` and `z` (R52). -/
theorem fields_of_formula : ∀ base ∈ ([0x40, 0x80] : List Byte), ∀ y z : BitVec 3,
    fieldQ (base + 8 * y.zeroExtend 8 + z.zeroExtend 8) = fieldQ base
      ∧ fieldY (base + 8 * y.zeroExtend 8 + z.zeroExtend 8) = y
      ∧ fieldZ (base + 8 * y.zeroExtend 8 + z.zeroExtend 8) = z := by decide

theorem operandOfCode_eq_getElem : ∀ c : BitVec 3,
    [Operand8.reg .B, .reg .C, .reg .D, .reg .E, .reg .H, .reg .L, .M, .reg .A][c.toNat]? = some (operandOfCode c) := by
  decide

theorem aluOfCode_eq_getElem : ∀ c : BitVec 3,
    [AluOp.ADD, .ADC, .SUB, .SBB, .ANA, .XRA, .ORA, .CMP][c.toNat]? = some (aluOfCode c) := by
  decide

/-- Settles O5: the formula's fields select the quadrant and its two operands. -/
theorem opcodesOfMovAndAluByFormula : Obligations.OpcodesOfMovAndAluByFormula := by
  intro y z b2 b3
  obtain ⟨hq1, hy1, hz1⟩ := fields_of_formula 0x40 (by simp) y z
  obtain ⟨hq2, hy2, hz2⟩ := fields_of_formula 0x80 (by simp) y z
  refine ⟨?_, ?_, operandOfCode_eq_getElem y, aluOfCode_eq_getElem y⟩
  · have hmov := decodeOpcode_of_fieldQ_one hq1 b2 b3
    rw [decodeQuadrant1, hy1, hz1] at hmov
    exact hmov
  · have halu := decodeOpcode_of_fieldQ_two hq2 b2 b3
    rw [decodeQuadrant2, hy2, hz2] at halu
    exact halu

/-- Settles O7, over the 8 codes and the 32 values of the flags. -/
theorem conditionCodesPickFlagAndValue : Obligations.ConditionCodesPickFlagAndValue := by
  rintro ccc ⟨z, s, p, cy, ac⟩
  revert ccc z s p cy ac
  decide

end Sys2Proof
end

section
/-! PROOFS. A step of a running core executes what the bytes of memory at PC decode to. -/
namespace Sys2Proof.Machine

open Sys2Proof.Safety

theorem bytesFrom_eq_cons {s : State} {a : Int} {n : Nat} {b : Byte} {rest : List Byte}
    (h : s.bytesFrom a (n + 1) = b :: rest) : s.inMemory a = true ∧ b = s.byteAt a ∧ rest = s.bytesFrom (a + 1) n := by
  rw [State.bytesFrom] at h
  split at h
  · cases h
    exact ⟨‹_›, rfl, rfl⟩
  · cases h

theorem fetchOperand_undeclared {s : State} {len k : Nat} (hk : len ≤ k) : fetchOperand s len k = .ok 0 :=
  if_neg (by omega)

/-- The fetch reads the bytes that `decode` reads. -/
theorem fetch_of_decode {s : State} {i : Instr} {rest : List Byte}
    (h : decode s.config.undefSet (s.bytesFrom (addrOf s.pc) 3) = .ok (i, rest)) : fetch s = .ok i := by
  cases hbytes : s.bytesFrom (addrOf s.pc) 3 with
  | nil => simp [hbytes, decode] at h
  | cons op bytes =>
    rw [hbytes] at h
    obtain ⟨hmem, rfl, hoperands⟩ := bytesFrom_eq_cons hbytes
    obtain ⟨hdefined, hcases⟩ := decode_ok h
    rw [fetch_of_opcode_defined hmem hdefined, opcodeAt]
    obtain ⟨hlen, -, rfl⟩ | ⟨b2, hlen, hrest, rfl⟩ | ⟨b2, b3, hlen, hrest, rfl⟩ := hcases
    · rw [hlen, fetchOperand_undeclared (by omega), fetchOperand_undeclared (by omega)]
      rfl
    · obtain ⟨hmem2, rfl, -⟩ := bytesFrom_eq_cons (hoperands.symm.trans hrest)
      rw [hlen, fetchOperand_inside (k := 1) (by omega) hmem2, fetchOperand_undeclared (by omega)]
      rfl
    · obtain ⟨hmem2, rfl, hlast⟩ := bytesFrom_eq_cons (hoperands.symm.trans hrest)
      obtain ⟨hmem3, rfl, -⟩ := bytesFrom_eq_cons hlast.symm
      rw [add_assoc] at hmem3
      rw [hlen, fetchOperand_inside (k := 1) (by omega) hmem2, fetchOperand_inside (k := 2) (by omega) hmem3, add_assoc]
      rfl

/-- Settles O21: a running core executes what it fetches. -/
theorem stepRunsDecodedInstruction : Obligations.StepRunsDecodedInstruction := by
  rintro s i rest ⟨hh, hf⟩ h
  rw [step_running hf hh, fetch_of_decode h]

end Sys2Proof.Machine
end

section
/-! PROOFS. The data move's statements: an operand that is a register never faults; M, the byte at HL, is read and written inside
memory and raises outside. -/
namespace Sys2Proof.Machine

/-! ## The operand M in numbers -/

section
variable {s : State}

theorem inMemory_HL_iff :
    s.inMemory (addrOf (s.regPair .HL)) = true ↔ 256 * s.regs.H.toNat + s.regs.L.toNat < s.config.memSize := by
  rw [addrOf_HL, inMemory_iff]
  omega

theorem readOperand_M_inside (h : 256 * s.regs.H.toNat + s.regs.L.toNat < s.config.memSize) :
    readOperand s .M = .ok (s.mem.get (256 * s.regs.H.toNat + s.regs.L.toNat)) := by
  rw [readOperand_M, if_pos (inMemory_HL_iff.mpr h), addrOf_HL]
  rfl

theorem readOperand_M_outside (h : s.config.memSize ≤ 256 * s.regs.H.toNat + s.regs.L.toNat) :
    readOperand s .M = .error (.boundsError ((256 * s.regs.H.toNat + s.regs.L.toNat : Nat) : Int)) := by
  rw [readOperand_M, if_neg (mt inMemory_HL_iff.mp h.not_gt), addrOf_HL]

theorem writeOperand_M_inside (v : Byte) (h : 256 * s.regs.H.toNat + s.regs.L.toNat < s.config.memSize) :
    writeOperand s .M v = .ok { s with mem := s.mem.set (256 * s.regs.H.toNat + s.regs.L.toNat) v } := by
  rw [writeOperand_M, if_pos (inMemory_HL_iff.mpr h), addrOf_HL]
  rfl

theorem writeOperand_M_outside (v : Byte) (h : s.config.memSize ≤ 256 * s.regs.H.toNat + s.regs.L.toNat) :
    writeOperand s .M v = .error (.boundsError ((256 * s.regs.H.toNat + s.regs.L.toNat : Nat) : Int)) := by
  rw [writeOperand_M, if_neg (mt inMemory_HL_iff.mp h.not_gt), addrOf_HL]

end

/-! ## The moves that touch no memory -/

/-- LXI of a register pair writes its two bytes, the high one to the first-named register (R11, R86). -/
theorem exec_lxiOf_rp {s : State} (h : s.pc.toNat + 3 ≤ 0xFFFF) (p : RegPair) (hi lo : Byte) :
    exec (lxiOf (.rp p) (joinBytes hi lo)) s =
      .next { s with regs := (s.regs.set (highReg p) hi).set (lowReg p) lo, pc := s.pc + 3 } := by
  rw [exec_lxiOf, loadPair, finish_advance (State.setPair_pc ..) h, State.setPair_rp, State.setRegPair, Regs.setPair,
    hiByte_joinBytes, loByte_joinBytes]
  rfl

theorem exec_xchg {s : State} (h : s.pc.toNat + 1 ≤ 0xFFFF) :
    exec .xchg s = .next { s with
      regs := { s.regs with D := s.regs.H, E := s.regs.L, H := s.regs.D, L := s.regs.E }, pc := s.pc + 1 } := by
  have hregs : (s.regs.setPair .DE (s.regs.getPair .HL)).setPair .HL (s.regs.getPair .DE) =
      { s.regs with D := s.regs.H, E := s.regs.L, H := s.regs.D, L := s.regs.E } := by
    simp [Regs.setPair, Regs.getPair, highReg, lowReg]
  rw [← hregs]
  exact finish_advance rfl h

/-- Settles O37: a register operand is read and written without a check, so each move ends in the advance of PC. -/
theorem registerMoveResult : Obligations.RegisterMoveResult := by
  intro s
  refine ⟨fun h d r => ?_, fun h d d8 => ?_, fun h hi lo => ⟨?_, ?_, ?_, ?_⟩, exec_xchg⟩
  · exact (exec_movOf d r s).trans (finish_advance rfl h)
  · exact (exec_mviOf d d8 s).trans (finish_advance rfl h)
  · exact exec_lxiOf_rp h .BC hi lo
  · exact exec_lxiOf_rp h .DE hi lo
  · exact exec_lxiOf_rp h .HL hi lo
  · exact (exec_lxiOf .SP _ s).trans (finish_advance rfl h)

/-! ## Loads and stores at HL -/

/-- Settles O38: M is read before the register is written, so the address is the old HL. -/
theorem moveFromMemoryResult : Obligations.MoveFromMemoryResult := by
  intro s d
  rw [exec_movFromMOf, moveOperand]
  refine ⟨fun hin hpc => ?_, fun hout => ?_⟩
  · rw [readOperand_M_inside hin]
    exact finish_advance rfl hpc
  · rw [readOperand_M_outside hout]
    rfl

/-- Settles O39: the source, a register or the immediate, is read without a check, and M is written. -/
theorem storeToMemoryResult : Obligations.StoreToMemoryResult := by
  intro s r d8
  have hmov : exec (movToMOf r) s = finish s (writeOperand s .M (s.reg r) >>= advance 1) := exec_movToMOf r s
  have hmvi : exec (.mviM d8) s = finish s (writeOperand s .M d8 >>= advance 2) := rfl
  rw [hmov, hmvi]
  refine ⟨fun hin => ?_, fun hout => ?_⟩
  · rw [writeOperand_M_inside _ hin, writeOperand_M_inside _ hin]
    exact ⟨finish_advance rfl, finish_advance rfl⟩
  · rw [writeOperand_M_outside _ hout, writeOperand_M_outside _ hout]
    exact ⟨rfl, rfl⟩

end Sys2Proof.Machine
end

section
/-! PROOFS. The arithmetic's statements: each flag computation as an equation in numbers, and each instruction as the advance of
PC after it. -/
namespace Sys2Proof.Machine

open Sys2Proof.Safety

/-! ## Bits and bytes in numbers -/

theorem getLsbD_seven (v : Byte) : v.getLsbD 7 = decide (128 ≤ v.toNat) := BitVec.msb_eq_decide v

theorem getLsbD_eight (w : Word) : w.getLsbD 8 = decide (w.toNat / 256 % 2 = 1) :=
  Nat.testBit_eq_decide_div_mod_eq

theorem loByte_ofNat (n : Nat) : loByte (BitVec.ofNat 16 n) = BitVec.ofNat 8 n := by
  apply BitVec.eq_of_toNat_eq
  simp only [toNat_loByte, BitVec.toNat_ofNat]
  omega

theorem hiByte_ofNat (n : Nat) : hiByte (BitVec.ofNat 16 n) = BitVec.ofNat 8 (n / 256) := by
  apply BitVec.eq_of_toNat_eq
  simp only [toNat_hiByte, BitVec.toNat_ofNat]
  omega

theorem lowNibble_not (b : Byte) : lowNibble (~~~b) = 15 - b.toNat % 16 := by
  have hb := b.isLt
  rw [lowNibble, BitVec.toNat_not]
  omega

/-! ## The flag computations in numbers -/

theorem zspWith_eq (v : Byte) (cy ac : Bool) :
    zspWith v cy ac = { Z := decide (v = 0), S := decide (128 ≤ v.toNat), P := parity v, CY := cy, AC := ac } := by
  rw [zspWith, getLsbD_seven]

theorem zspWith_ofNat (n : Nat) (cy ac : Bool) :
    zspWith (BitVec.ofNat 8 n) cy ac =
      { Z := decide (n % 256 = 0), S := decide (128 ≤ n % 256), P := parity (BitVec.ofNat 8 n), CY := cy, AC := ac } := by
  have hzero : BitVec.ofNat 8 n = 0 ↔ n % 256 = 0 := by simp [← BitVec.toNat_inj]
  simp only [zspWith_eq, hzero, BitVec.toNat_ofNat]

/-- The widened sum does not wrap, so it is below 512 and its bit 8 is the carry (R119). -/
theorem add8_eq (a b : Byte) (cin : Bool) :
    add8 a b cin =
      (BitVec.ofNat 8 (a.toNat + b.toNat + cin.toNat),
        zspWith (BitVec.ofNat 8 (a.toNat + b.toNat + cin.toNat)) (decide (256 ≤ a.toNat + b.toNat + cin.toNat))
          (decide (16 ≤ a.toNat % 16 + b.toNat % 16 + cin.toNat))) := by
  have ha := a.isLt
  have hb := b.isLt
  have hc := cin.toNat_le
  have hw : zext16 a + zext16 b + BitVec.ofNat 16 cin.toNat = BitVec.ofNat 16 (a.toNat + b.toNat + cin.toNat) := by
    apply BitVec.eq_of_toNat_eq
    simp [zext16]
  have hcarry : (BitVec.ofNat 16 (a.toNat + b.toNat + cin.toNat)).getLsbD 8
      = decide (256 ≤ a.toNat + b.toNat + cin.toNat) := by
    rw [getLsbD_eight, BitVec.toNat_ofNat, decide_eq_decide]
    omega
  simp only [add8, hw, loByte_ofNat, hcarry]
  rfl

/-- The widened difference wraps modulo 2^16 when it borrows, and its bit 8 is then 1 (R120). -/
theorem sub8_eq (a b : Byte) (bin : Bool) :
    sub8 a b bin =
      (BitVec.ofNat 8 (a.toNat + 256 - (b.toNat + bin.toNat)),
        zspWith (BitVec.ofNat 8 (a.toNat + 256 - (b.toNat + bin.toNat))) (decide (a.toNat < b.toNat + bin.toNat))
          (decide (b.toNat % 16 + bin.toNat ≤ a.toNat % 16))) := by
  have ha := a.isLt
  have hb := b.isLt
  have hc := bin.toNat_le
  have hw : zext16 a - zext16 b - BitVec.ofNat 16 bin.toNat
      = BitVec.ofNat 16 (a.toNat + 65536 - (b.toNat + bin.toNat)) := by
    apply BitVec.eq_of_toNat_eq
    simp [zext16]
    omega
  have hres : BitVec.ofNat 8 (a.toNat + 65536 - (b.toNat + bin.toNat))
      = BitVec.ofNat 8 (a.toNat + 256 - (b.toNat + bin.toNat)) := by
    apply BitVec.eq_of_toNat_eq
    simp only [BitVec.toNat_ofNat]
    omega
  have hborrow : (BitVec.ofNat 16 (a.toNat + 65536 - (b.toNat + bin.toNat))).getLsbD 8
      = decide (a.toNat < b.toNat + bin.toNat) := by
    rw [getLsbD_eight, BitVec.toNat_ofNat, decide_eq_decide]
    omega
  have hhalf : lowNibble a + lowNibble (~~~b) + (1 - bin.toNat) > 0xF ↔ b.toNat % 16 + bin.toNat ≤ a.toNat % 16 := by
    rw [lowNibble_not, lowNibble]
    omega
  simp only [sub8, hw, loByte_ofNat, hres, hborrow, hhalf]

theorem inc8_eq {v res : Byte} (hres : res = BitVec.ofNat 8 (v.toNat + 1)) (f : Flags) :
    inc8 v f =
      (res, { Z := decide (res = 0), S := decide (128 ≤ res.toNat), P := parity res, CY := f.CY,
              AC := decide (v.toNat % 16 = 15) }) := by
  have hsucc : v + 1 = res := by rw [hres]; bv_omega
  rw [← zspWith_eq, ← hsucc]
  rfl

theorem dec8_eq {v res : Byte} (hres : res = BitVec.ofNat 8 (v.toNat + 255)) (f : Flags) :
    dec8 v f =
      (res, { Z := decide (res = 0), S := decide (128 ≤ res.toNat), P := parity res, CY := f.CY,
              AC := decide (v.toNat % 16 ≠ 0) }) := by
  have hpred : v - 1 = res := by rw [hres]; bv_omega
  rw [← zspWith_eq, ← hpred]
  rfl

/-- The 17-bit sum does not wrap, so its bit 16 is the carry (R118). -/
theorem dad16_eq (a b : Word) :
    dad16 a b = (BitVec.ofNat 16 (a.toNat + b.toNat), decide (65536 ≤ a.toNat + b.toNat)) := by
  have ha := a.isLt
  have hb := b.isLt
  have hw : (a.zeroExtend 17 + b.zeroExtend 17).toNat = a.toNat + b.toNat := by
    simp
    omega
  have hsum : (a.zeroExtend 17 + b.zeroExtend 17).extractLsb' 0 16 = BitVec.ofNat 16 (a.toNat + b.toNat) := by
    rw [BitVec.extractLsb', hw, Nat.shiftRight_zero]
  have hcarry : (a.zeroExtend 17 + b.zeroExtend 17).getLsbD 16 = decide (65536 ≤ a.toNat + b.toNat) := by
    rw [BitVec.getLsbD, hw, Nat.testBit_eq_decide_div_mod_eq, decide_eq_decide]
    omega
  rw [dad16, hsum, hcarry]

/-- Settles O11, by the equation of Add8. -/
theorem addWithCarryFunction : Obligations.AddWithCarryFunction := by
  intro a b cin
  rw [add8_eq]
  refine ⟨BitVec.toNat_ofNat _ _, decide_eq_true_iff, decide_eq_true_iff, ?_, rfl, rfl⟩
  rw [zspWith_ofNat, decide_eq_true_iff]

/-- Settles O12, by the equation of Sub8; the two forms of AC are one inequality. -/
theorem subtractWithBorrowFunction : Obligations.SubtractWithBorrowFunction := by
  intro a b bin
  have hb := b.isLt
  have hc := bin.toNat_le
  rw [sub8_eq]
  refine ⟨?_, decide_eq_true_iff, decide_eq_true_iff, ?_, ?_, rfl, rfl⟩
  · rw [BitVec.toNat_ofNat]
    omega
  · refine decide_eq_true_iff.trans ?_
    omega
  · rw [zspWith_ofNat, decide_eq_true_iff, BitVec.toNat_ofNat]

/-! ## Accumulator operations -/

/-- An accumulator operation whose source can be read completes. -/
theorem exec_source {src : Source} {s : State} (op : AluOp) (hread : src.readable s = true)
    (hpc : s.pc.toNat + src.length ≤ 0xFFFF) :
    exec (src.instr op) s =
      .next { applyAlu op (src.value s) s with pc := s.pc + BitVec.ofNat 16 src.length } := by
  cases src with
  | reg r => exact (exec_aluRegOf op r s).trans (finish_advance (applyAlu_pc ..) hpc)
  | M =>
    have hin : s.inMemory (addrOf (s.regPair .HL)) = true := hread
    rw [Source.instr, exec_aluMOf, aluOperand, readOperand_M, if_pos hin]
    exact finish_advance (applyAlu_pc ..) hpc
  | imm d8 => exact (exec_aluImmOf op d8 s).trans (finish_advance (applyAlu_pc ..) hpc)

theorem applyAlu_add (withCarry : Bool) (v : Byte) (s : State) :
    applyAlu (if withCarry then .ADC else .ADD) v s = s.setAccumulator (add8 s.regs.A v (withCarry && s.flags.CY)) := by
  cases withCarry <;> rfl

theorem applyAlu_subtract (withBorrow : Bool) (v : Byte) (s : State) :
    applyAlu (if withBorrow then .SBB else .SUB) v s = s.setAccumulator (sub8 s.regs.A v (withBorrow && s.flags.CY)) := by
  cases withBorrow <;> rfl

/-- Settles O40, by the equation of Add8. -/
theorem addResult : Obligations.AddResult := by
  rintro src s withCarry hread hpc total nibbles rfl rfl
  rw [exec_source _ hread hpc, applyAlu_add, add8_eq, zspWith_ofNat]
  rfl

/-- Settles O41, by the equation of Sub8. -/
theorem subtractResult : Obligations.SubtractResult := by
  rintro src s withBorrow hread hpc less difference rfl rfl
  rw [exec_source _ hread hpc, applyAlu_subtract, sub8_eq, zspWith_ofNat]
  rfl

/-- Settles O44: M is read before anything is written. -/
theorem accumulatorOperationOnMissingM : Obligations.AccumulatorOperationOnMissingM := by
  intro op s hout
  rw [exec_aluMOf, aluOperand, readOperand_M_outside hout]
  rfl

/-! ## Increment and decrement of a byte -/

/-- Read an 8-bit operand, write what `f` makes of its value, and the flags: what INR and DCR have in common (R112 to R115). -/
def modifyOperand (f : Byte → Byte × Flags) (o : Operand8) (s : State) : Host.Outcome State Fault Refusal :=
  finish s do
    let v ← readOperand s o
    let t ← writeOperand s o (f v).1
    advance 1 (t.setFlags (f v).2)

theorem incrementOperand_eq (o : Operand8) (s : State) :
    incrementOperand o s = modifyOperand (inc8 · s.flags) o s := rfl

theorem decrementOperand_eq (o : Operand8) (s : State) :
    decrementOperand o s = modifyOperand (dec8 · s.flags) o s := rfl

section
variable {s : State} (f : Byte → Byte × Flags)

theorem modifyOperand_reg (r : Reg) (hpc : s.pc.toNat + 1 ≤ 0xFFFF) :
    modifyOperand f (.reg r) s =
      .next { s with regs := s.regs.set r (f (s.regs.get r)).1, flags := (f (s.regs.get r)).2, pc := s.pc + 1 } :=
  finish_advance rfl hpc

theorem modifyOperand_M_inside {v : Byte} (hv : v = s.mem.get (256 * s.regs.H.toNat + s.regs.L.toNat))
    (hin : 256 * s.regs.H.toNat + s.regs.L.toNat < s.config.memSize) (hpc : s.pc.toNat + 1 ≤ 0xFFFF) :
    modifyOperand f .M s =
      .next { s with
        mem := s.mem.set (256 * s.regs.H.toNat + s.regs.L.toNat) (f v).1, flags := (f v).2, pc := s.pc + 1 } := by
  rw [modifyOperand, readOperand_M_inside hin, ← hv]
  show finish s (writeOperand s .M (f v).1 >>= _) = _
  rw [writeOperand_M_inside _ hin]
  exact finish_advance rfl hpc

theorem modifyOperand_M_outside (hout : s.config.memSize ≤ 256 * s.regs.H.toNat + s.regs.L.toNat) :
    modifyOperand f .M s =
      .next { s with fault := some (.boundsError ((256 * s.regs.H.toNat + s.regs.L.toNat : Nat) : Int)) } := by
  rw [modifyOperand, readOperand_M_outside hout]
  rfl

end

/-- Settles O45: a register operand is read and written without a check. -/
theorem incrementDecrementRegisterResult : Obligations.IncrementDecrementRegisterResult := by
  intro s r hpc
  refine ⟨fun res hres => ?_, fun res hres => ?_⟩
  · rw [exec_inrOf, incrementOperand_eq, modifyOperand_reg _ r hpc, inc8_eq hres]
  · rw [exec_dcrOf, decrementOperand_eq, modifyOperand_reg _ r hpc, dec8_eq hres]

/-- Settles O46: M is read first, and raises outside memory; inside memory both accesses pass. -/
theorem incrementDecrementMemoryResult : Obligations.IncrementDecrementMemoryResult := by
  rintro s a v rfl hv
  have hinr : exec .inrM s = modifyOperand (inc8 · s.flags) .M s := rfl
  have hdcr : exec .dcrM s = modifyOperand (dec8 · s.flags) .M s := rfl
  rw [hinr, hdcr]
  refine ⟨fun hin hpc => ⟨fun res hres => ?_, fun res hres => ?_⟩, fun hout => ?_⟩
  · rw [modifyOperand_M_inside _ hv hin hpc, inc8_eq hres]
  · rw [modifyOperand_M_inside _ hv hin hpc, dec8_eq hres]
  · exact ⟨modifyOperand_M_outside _ hout, modifyOperand_M_outside _ hout⟩

/-! ## Increment, decrement and addition of a pair -/

/-- Settles O47: neither checks anything, and 65535 is -1 modulo 2^16. -/
theorem pairIncrementDecrementResult : Obligations.PairIncrementDecrementResult := by
  intro s p hpc
  have hsucc : BitVec.ofNat 16 ((s.pair p).toNat + 1) = s.pair p + 1 := by bv_omega
  have hpred : BitVec.ofNat 16 ((s.pair p).toNat + 65535) = s.pair p - 1 := by bv_omega
  rw [hsucc, hpred, exec_inxOf, exec_dcxOf]
  exact ⟨finish_advance (State.setPair_pc ..) hpc, finish_advance (State.setPair_pc ..) hpc⟩

theorem toNat_regPair_HL (s : State) : (s.regPair .HL).toNat = 256 * s.regs.H.toNat + s.regs.L.toNat :=
  toNat_joinBytes _ _

theorem setPair_HL_ofNat (x : Regs) (n : Nat) :
    x.setPair .HL (BitVec.ofNat 16 n) = { x with H := BitVec.ofNat 8 (n / 256), L := BitVec.ofNat 8 n } := by
  rw [← hiByte_ofNat, ← loByte_ofNat]
  rfl

/-- Settles O48, by the equation of the 16-bit sum. -/
theorem addPairToHLResult : Obligations.AddPairToHLResult := by
  rintro s p total hpc rfl
  rw [exec_dadOf, addPairToHL, dad16_eq, toNat_regPair_HL, State.setRegPair, setPair_HL_ofNat]
  exact finish_advance rfl hpc

end Sys2Proof.Machine
end

section
/-! PROOFS. The logical statements: Logic8 bit by bit, Compare8 in numbers, and each instruction as the advance of PC after its
accumulator operation. -/
namespace Sys2Proof.Machine

/-! ## The flag computations -/

/-- The byte difference is the difference of the numbers with 256 added against a borrow; S and P of R143 read it. -/
theorem sub_eq_ofNat (a b : Byte) : a - b = BitVec.ofNat 8 (a.toNat + 256 - b.toNat) := by bv_omega

theorem compare8_eq (a b : Byte) :
    compare8 a b =
      { Z := decide (a = b), S := decide (128 ≤ (a.toNat + 256 - b.toNat) % 256)
        P := parity (BitVec.ofNat 8 (a.toNat + 256 - b.toNat)), CY := decide (a.toNat < b.toNat)
        AC := decide (b.toNat % 16 ≤ a.toNat % 16) } := by
  have hhalf : lowNibble a + lowNibble (~~~b) + 1 > 0xF ↔ b.toNat % 16 ≤ a.toNat % 16 := by
    rw [lowNibble_not, lowNibble]
    omega
  simp only [compare8, sub_eq_ofNat, getLsbD_seven, BitVec.toNat_ofNat, hhalf]

/-- Comparing is subtracting without a borrow and keeping the flags; the difference is zero when the bytes are equal. -/
theorem compare8_eq_sub8_flags (a b : Byte) : compare8 a b = (sub8 a b false).2 := by
  have hzero : (a.toNat + 256 - b.toNat) % 256 = 0 ↔ a = b := by bv_omega
  simp only [compare8_eq, sub8_eq, zspWith_ofNat, Bool.toNat_false, Nat.add_zero, hzero]

/-- Settles O13: the flags are those of the result with both carries cleared, whatever the operation. -/
theorem logicFunctionClearsCarries : Obligations.LogicFunctionClearsCarries := by
  intro op a b
  refine ⟨fun k => ?_, rfl, rfl, ?_, rfl, rfl⟩
  · cases op with
    | AND => exact BitVec.getLsbD_and
    | XOR => exact BitVec.getLsbD_xor
    | OR => exact BitVec.getLsbD_or
  · rw [logic8, zspWith_eq, decide_eq_true_iff]
    exact BitVec.toNat_inj.symm

/-- Settles O14: S and P read the difference; the two forms of AC are one inequality, by the equation of Compare8. -/
theorem compareFunctionAgreesWithSubtract : Obligations.CompareFunctionAgreesWithSubtract := by
  intro a b
  rw [← sub_eq_ofNat]
  refine ⟨decide_eq_true_iff, decide_eq_true_iff, rfl, rfl, ?_, compare8_eq_sub8_flags a b⟩
  rw [compare8_eq, decide_eq_true_iff]
  omega

/-! ## Accumulator operations -/

theorem applyAlu_bitwise {op : AluOp} (hop : op ∈ [AluOp.ANA, .XRA, .ORA]) (v : Byte) (s : State) {res : Byte}
    (hres : res = if op = .ANA then s.regs.A &&& v else if op = .XRA then s.regs.A ^^^ v else s.regs.A ||| v) :
    applyAlu op v s = s.setAccumulator (res, zspWith res false false) := by
  simp only [List.mem_cons, List.not_mem_nil, or_false] at hop
  subst hres
  rcases hop with rfl | rfl | rfl <;> rfl

/-- Settles O42: the three operations differ in the result only; each clears both carries. -/
theorem logicResult : Obligations.LogicResult := by
  intro src s hread hpc op hop res hres
  rw [exec_source _ hread hpc, applyAlu_bitwise hop _ _ hres, zspWith_eq]
  rfl

/-- Settles O43, by the equation of Compare8. -/
theorem compareResult : Obligations.CompareResult := by
  intro src s hread hpc
  rw [exec_source _ hread hpc, ← compare8_eq]
  rfl

end Sys2Proof.Machine
end

section
/-! PROOFS. The rotates' statement: each rotate as an equation in numbers, its two parts side by side, and each instruction as
the advance of PC after it. -/
namespace Sys2Proof.Machine

/-! ## Parts of a byte in numbers -/

theorem getLsbD_zero (v : Byte) : v.getLsbD 0 = decide (v.toNat % 2 = 1) := Nat.testBit_zero v.toNat

/-- The lowest `n` bits. -/
theorem toNat_lowPart (v : Byte) (n : Nat) : (v.extractLsb' 0 n).toNat = v.toNat % 2 ^ n := by
  rw [BitVec.extractLsb'_toNat, Nat.shiftRight_zero]

/-- The bits from `k` up to the top: nothing is left above them to cut off. -/
theorem toNat_highPart (v : Byte) {k n : Nat} (hkn : k + n = 8) : (v.extractLsb' k n).toNat = v.toNat / 2 ^ k := by
  have hlt : v.toNat / 2 ^ k < 2 ^ n := by
    rw [Nat.div_lt_iff_lt_mul (Nat.two_pow_pos k), ← Nat.pow_add, Nat.add_comm, hkn]
    exact v.isLt
  rw [BitVec.extractLsb'_toNat, Nat.shiftRight_eq_div_pow, Nat.mod_eq_of_lt hlt]

/-- Parts written side by side, `x : y` (R8): the high part counts `2 ^ n` times. -/
theorem append_eq_ofNat {m n : Nat} (x : BitVec m) (y : BitVec n) :
    x ++ y = BitVec.ofNat (m + n) (x.toNat * 2 ^ n + y.toNat) := by
  have hor : x.toNat <<< n ||| y.toNat = x.toNat * 2 ^ n + y.toNat := by
    rw [Nat.shiftLeft_eq, Nat.mul_comm, Nat.two_pow_add_eq_or_of_lt y.isLt]
  rw [← hor, ← BitVec.toNat_append, BitVec.ofNat_toNat, BitVec.setWidth_eq]

/-! ## The rotates in numbers -/

theorem rotRLC_eq (a : Byte) :
    rotRLC a = (BitVec.ofNat 8 (a.toNat % 128 * 2 + a.toNat / 128), decide (128 ≤ a.toNat)) := by
  rw [rotRLC, append_eq_ofNat, toNat_lowPart, toNat_highPart a rfl, getLsbD_seven]
  rfl

theorem rotRRC_eq (a : Byte) :
    rotRRC a = (BitVec.ofNat 8 (a.toNat % 2 * 128 + a.toNat / 2), decide (a.toNat % 2 = 1)) := by
  rw [rotRRC, append_eq_ofNat, toNat_lowPart, toNat_highPart a rfl, getLsbD_zero]
  rfl

theorem rotRAL_eq (a : Byte) (c : Bool) :
    rotRAL a c = (BitVec.ofNat 8 (a.toNat % 128 * 2 + c.toNat), decide (128 ≤ a.toNat)) := by
  rw [rotRAL, append_eq_ofNat, toNat_lowPart, BitVec.toNat_ofBool, getLsbD_seven]
  rfl

theorem rotRAR_eq (a : Byte) (c : Bool) :
    rotRAR a c = (BitVec.ofNat 8 (c.toNat * 128 + a.toNat / 2), decide (a.toNat % 2 = 1)) := by
  rw [rotRAR, append_eq_ofNat, BitVec.toNat_ofBool, toNat_highPart a rfl, getLsbD_zero]
  rfl

/-! ## The instructions -/

/-- A rotate accesses no memory, so it completes when the next PC fits, with A and CY as it computed them (R154). -/
theorem rotateAccumulator_eq {s : State} {r : Byte × Bool} {v : Byte} {cy : Bool} (hr : r = (v, cy))
    (hpc : s.pc.toNat + 1 ≤ 0xFFFF) :
    rotateAccumulator r s =
      .next { s with regs := { s.regs with A := v }, flags := { s.flags with CY := cy }, pc := s.pc + 1 } := by
  subst hr
  exact finish_advance rfl hpc

/-- Settles O49, by the equations of the four rotates. -/
theorem rotateResult : Obligations.RotateResult := by
  rintro s a c hpc rfl rfl
  refine ⟨?rlc, ?rrc, ?ral, ?rar⟩
  case rlc => exact rotateAccumulator_eq (rotRLC_eq s.regs.A) hpc
  case rrc => exact rotateAccumulator_eq (rotRRC_eq s.regs.A) hpc
  case ral => exact rotateAccumulator_eq (rotRAL_eq s.regs.A s.flags.CY) hpc
  case rar => exact rotateAccumulator_eq (rotRAR_eq s.regs.A s.flags.CY) hpc

end Sys2Proof.Machine
end

section
/-! PROOFS. The stack and control transfers' statements. A push, and a pop, whose two stack bytes exist is `State.pushed`, and
`State.popped` with the word at SP; every transfer and every stack instruction is one of them, a jump, or the advance of PC. -/
namespace Sys2Proof.Machine

open Sys2Proof.Safety

/-! ## A push that finds its two bytes -/

section
variable {s : State}

theorem push16_inside (h1 : s.inMemory (addrOf s.sp - 1) = true) (h2 : 2 ≤ s.sp.toNat) (v : Word) :
    push16 s v = .ok (s.pushed v) := by
  have hlow : s.inMemory (addrOf s.sp - 2) = true := by
    rw [inMemory_iff] at h1 ⊢
    unfold addrOf at h1 ⊢
    omega
  rw [push16_eq, if_pos h1, if_pos hlow]
  rfl

/-- A push in numbers. -/
theorem State.pushed_eq (h : 2 ≤ s.sp.toNat) (v : Word) :
    s.pushed v = { s with
      mem := (s.mem.set (s.sp.toNat - 1) (hiByte v)).set (s.sp.toNat - 2) (loByte v)
      sp := BitVec.ofNat 16 (s.sp.toNat - 2) } := by
  have hhigh : (addrOf s.sp - 1).toNat = s.sp.toNat - 1 := by unfold addrOf; omega
  have hlow : (addrOf s.sp - 2).toNat = s.sp.toNat - 2 := by unfold addrOf; omega
  have hsp : s.sp - 2 = BitVec.ofNat 16 (s.sp.toNat - 2) := by bv_omega
  rw [State.pushed, hhigh, hlow, hsp]

theorem callTo_inside (h1 : s.inMemory (addrOf s.sp - 1) = true) (h2 : 2 ≤ s.sp.toNat) (target : Word) {len : Nat}
    (hret : s.pc.toNat + len ≤ 0xFFFF) :
    callTo target len s = .ok (jumpTo target (s.pushed (BitVec.ofNat 16 (s.pc.toNat + len)))) := by
  rw [callTo_eq, if_pos hret, push16_inside h1 h2]
  rfl

/-- A call in numbers (R164). -/
theorem finish_callTo_inside (h1 : s.inMemory (addrOf s.sp - 1) = true) (h2 : 2 ≤ s.sp.toNat) (target : Word)
    {len ret : Nat} (hret : ret = s.pc.toNat + len) (hfit : ret ≤ 0xFFFF) :
    finish s (callTo target len s) = .next { s with
      mem := (s.mem.set (s.sp.toNat - 1) (BitVec.ofNat 8 (ret / 256))).set (s.sp.toNat - 2) (BitVec.ofNat 8 ret)
      sp := BitVec.ofNat 16 (s.sp.toNat - 2), pc := target } := by
  subst hret
  rw [callTo_inside h1 h2 target hfit, State.pushed_eq h2, hiByte_ofNat, loByte_ofNat]
  rfl

theorem pushWord_inside (h1 : s.inMemory (addrOf s.sp - 1) = true) (h2 : 2 ≤ s.sp.toNat) (v : Word)
    (hpc : s.pc.toNat + 1 ≤ 0xFFFF) : pushWord v s = .next { s.pushed v with pc := s.pc + 1 } := by
  rw [pushWord, push16_inside h1 h2]
  exact finish_advance rfl hpc

end

/-! ## A pop that finds its two bytes -/

section
variable {s : State}

theorem topOfStack_eq (s : State) : topOfStack s = joinBytes (s.mem.get (s.sp.toNat + 1)) (s.mem.get s.sp.toNat) := rfl

theorem State.popped_eq (s : State) : s.popped = { s with sp := s.sp + 2 } := by
  have hsp : BitVec.ofNat 16 (s.sp.toNat + 2) = s.sp + 2 := by bv_omega
  rw [State.popped, hsp]

theorem inMemory_popAddrs (h : addrOf s.sp + 1 < s.config.memSize) :
    s.inMemory (addrOf s.sp) = true ∧ s.inMemory (addrOf s.sp + 1) = true := by
  simp only [inMemory_iff]
  unfold addrOf at h ⊢
  omega

theorem pop16_inside (h : addrOf s.sp + 1 < s.config.memSize) (hfit : s.sp.toNat + 2 ≤ 0xFFFF) :
    pop16 s = .ok (topOfStack s, s.popped) := by
  obtain ⟨hlow, hhigh⟩ := inMemory_popAddrs h
  rw [pop16_eq, if_pos hlow, if_pos hhigh, if_pos hfit]
  rfl

theorem finish_returnFrom_inside (h : addrOf s.sp + 1 < s.config.memSize) (hfit : s.sp.toNat + 2 ≤ 0xFFFF) :
    finish s (returnFrom s) = .next { s with pc := topOfStack s, sp := s.sp + 2 } := by
  rw [returnFrom_eq, pop16_inside h hfit, State.popped_eq]
  rfl

theorem popPair_inside (h : addrOf s.sp + 1 < s.config.memSize) (hfit : s.sp.toNat + 2 ≤ 0xFFFF)
    (hpc : s.pc.toNat + 1 ≤ 0xFFFF) (p : RegPair) :
    popPair p s = .next { s with regs := s.regs.setPair p (topOfStack s), sp := s.sp + 2, pc := s.pc + 1 } := by
  rw [popPair, pop16_inside h hfit, State.popped_eq]
  exact finish_advance rfl hpc

theorem popAccumulatorAndFlags_inside (h : addrOf s.sp + 1 < s.config.memSize) (hfit : s.sp.toNat + 2 ≤ 0xFFFF)
    (hpc : s.pc.toNat + 1 ≤ 0xFFFF) :
    popAccumulatorAndFlags s = .next { s with
      regs := { s.regs with A := hiByte (topOfStack s) }, flags := flagsOfByte (loByte (topOfStack s))
      sp := s.sp + 2, pc := s.pc + 1 } := by
  rw [popAccumulatorAndFlags, pop16_inside h hfit, State.popped_eq]
  exact finish_advance rfl hpc

end

/-! ## A pop after a push -/

section
variable {s : State}

@[simp] theorem State.pushed_sp (s : State) (v : Word) : (s.pushed v).sp = s.sp - 2 := rfl

theorem toNat_sp_sub_two (h : 2 ≤ s.sp.toNat) : (s.sp - 2).toNat = s.sp.toNat - 2 := by bv_omega

/-- The bytes a push wrote are the word a pop reads (R40). -/
theorem topOfStack_pushed (hm : s.mem.wf = true) (h : 2 ≤ s.sp.toNat) (v : Word) : topOfStack (s.pushed v) = v := by
  have hnext : s.sp.toNat - 2 + 1 = s.sp.toNat - 1 := by omega
  rw [topOfStack_eq, State.pushed_sp, toNat_sp_sub_two h, hnext, State.pushed_eq h]
  have hwf := Memory.set_wf (s.sp.toNat - 1) (hiByte v) hm
  rw [Memory.get_set hwf, Memory.get_set hwf, if_neg (by omega), if_pos rfl, Memory.get_set hm, if_pos rfl,
    joinBytes_hi_lo]

/-- The two bytes below SP exist: what a push checks. -/
theorem inMemory_below_sp (h2 : 2 ≤ s.sp.toNat) (hsp : addrOf s.sp ≤ s.config.memSize) :
    s.inMemory (addrOf s.sp - 1) = true := by
  rw [inMemory_iff]
  unfold addrOf at hsp ⊢
  omega

/-- What a pop checks holds of the stack pointer a push leaves. -/
theorem pop_room_after_push {u : State} (h2 : 2 ≤ s.sp.toNat) (hsp : addrOf s.sp ≤ s.config.memSize)
    (husp : u.sp = s.sp - 2) (hconfig : u.config = s.config) :
    addrOf u.sp + 1 < u.config.memSize ∧ u.sp.toNat + 2 ≤ 0xFFFF := by
  have hlt := s.sp.isLt
  unfold addrOf at hsp ⊢
  rw [husp, hconfig, toNat_sp_sub_two h2]
  omega

end

theorem Regs.setPair_getPair (x : Regs) (p : RegPair) : x.setPair p (x.getPair p) = x := by
  cases p <;> simp [Regs.setPair, Regs.getPair, highReg, lowReg]

/-- Settles O19: the push completes, the word the pop reads is the one pushed, and SP falls and rises by 2. -/
theorem pushThenPopRestores : Obligations.PushThenPopRestores := by
  intro s hm h2 hsp hpc
  have h1 := inMemory_below_sp h2 hsp
  have hroom (v : Word) := pop_room_after_push (u := { s.pushed v with pc := s.pc + 1 }) h2 hsp rfl rfl
  have htop (v : Word) : topOfStack { s.pushed v with pc := s.pc + 1 } = v := topOfStack_pushed hm h2 v
  have hpc' : (s.pc + 1).toNat + 1 ≤ 0xFFFF := by bv_omega
  refine ⟨fun p => ?_, ?_⟩
  · obtain ⟨hin, hfit⟩ := hroom (s.regPair p)
    refine ⟨_, _, (exec_pushOf p s).trans (pushWord_inside h1 h2 _ (by omega)),
      (exec_popOf p _).trans (popPair_inside hin hfit hpc' p), ?_, BitVec.sub_add_cancel s.sp 2, rfl, rfl⟩
    rw [htop]
    exact Regs.setPair_getPair s.regs p
  · obtain ⟨hin, hfit⟩ := hroom (joinBytes (s.reg .A) (flagsByte s.flags))
    refine ⟨_, _, pushWord_inside h1 h2 _ (by omega), popAccumulatorAndFlags_inside hin hfit hpc', ?_,
      BitVec.sub_add_cancel s.sp 2, ?_, rfl⟩
    · rw [htop, hiByte_joinBytes]
      rfl
    · rw [htop, loByte_joinBytes]
      exact flagsOfByte_flagsByte s.flags

/-- Settles O20: the call pushed the return address, and SP and the two stack bytes are all a return reads. -/
theorem callThenReturnResumes : Obligations.CallThenReturnResumes := by
  intro s t u target hm h2 hsp hpc hcall husp hlow hhigh hconfig
  have hexec : exec (.call target) s = finish s (callTo target 3 s) := rfl
  rw [hexec, callTo_inside (inMemory_below_sp h2 hsp) h2 target hpc, finish_ok] at hcall
  obtain rfl := Host.Outcome.next.inj hcall
  rw [jumpTo_sp, State.pushed_sp] at husp
  obtain ⟨hin, hfit⟩ := pop_room_after_push h2 hsp husp hconfig
  have htop : topOfStack u = BitVec.ofNat 16 (s.pc.toNat + 3) := by
    rw [← topOfStack_pushed hm h2 (BitVec.ofNat 16 (s.pc.toNat + 3)), topOfStack_eq, topOfStack_eq, husp, State.pushed_sp]
    exact congrArg₂ joinBytes hhigh hlow
  have hret : exec .ret u = finish u (returnFrom u) := rfl
  rw [hret, finish_returnFrom_inside hin hfit, htop, husp, BitVec.sub_add_cancel]
  exact ⟨rfl, rfl⟩

/-! ## Jumps, calls and returns -/

/-- Settles O50: no target is checked, and an untaken Jcc ends in the advance of PC. -/
theorem jumpResult : Obligations.JumpResult := by
  intro s a16
  refine ⟨rfl, ?_, fun c => ⟨fun htaken => ?_, fun huntaken hpc => ?_⟩⟩
  · rw [← joinBytes_eq_ofNat]
    rfl
  · rw [exec_jccOf, jumpIf, if_pos htaken]
    rfl
  · rw [exec_jccOf, jumpIf, if_neg (Bool.eq_false_iff.mp huntaken)]
    exact finish_advance rfl hpc

/-- The target of RST n in numbers. -/
theorem zeroExtend_mul_eight (n : BitVec 3) : n.zeroExtend 16 * 8 = BitVec.ofNat 16 (8 * n.toNat) := by
  bv_omega

/-- Settles O51: CALL, a taken Ccc and RST are one call, whose return address is checked first. -/
theorem callAndRestartResult : Obligations.CallAndRestartResult := by
  intro s a16
  refine ⟨fun h1 h2 => ⟨?call, ?rst⟩, ?untaken, ?tooWide⟩
  case call =>
    intro ret hret hfit i hi
    have hexec : exec i s = finish s (callTo a16 3 s) := by
      obtain rfl | ⟨c, rfl, htaken⟩ := hi
      · rfl
      · rw [exec_cccOf, callIf, if_pos htaken]
    rw [hexec, finish_callTo_inside h1 h2 a16 hret hfit]
  case rst =>
    intro ret n hret hfit
    rw [exec_rstOf, restart, finish_callTo_inside h1 h2 _ hret hfit, zeroExtend_mul_eight]
  case untaken =>
    intro c huntaken hpc
    rw [exec_cccOf, callIf, if_neg (Bool.eq_false_iff.mp huntaken)]
    exact finish_advance rfl hpc
  case tooWide =>
    intro hwide
    have hexec : exec (.call a16) s = finish s (callTo a16 3 s) := rfl
    rw [hexec, callTo_eq, if_neg (by omega)]
    rfl

/-- Settles O52: RET and a taken Rcc are one return, and an untaken Rcc ends in the advance of PC. -/
theorem returnResult : Obligations.ReturnResult := by
  intro s
  refine ⟨fun hin hfit i hi => ?_, fun c huntaken hpc => ?_⟩
  · have hexec : exec i s = finish s (returnFrom s) := by
      obtain rfl | ⟨c, rfl, htaken⟩ := hi
      · rfl
      · rw [exec_rccOf, returnIf, if_pos htaken]
    rw [hexec, finish_returnFrom_inside hin hfit, topOfStack_eq, joinBytes_eq_ofNat]
  · rw [exec_rccOf, returnIf, if_neg (Bool.eq_false_iff.mp huntaken)]
    exact finish_advance rfl hpc

/-! ## PUSH, POP, XTHL and SPHL -/

theorem flagsByte_eq_ofNat (f : Flags) : flagsByte f =
    BitVec.ofNat 8 (128 * f.S.toNat + 64 * f.Z.toNat + 16 * f.AC.toNat + 4 * f.P.toNat + 2 + f.CY.toNat) := by
  rw [← toNat_flagsByte, BitVec.ofNat_toNat, BitVec.setWidth_eq]

/-- Settles O53: each row of the list pushes its two bytes as one word. -/
theorem pushResult : Obligations.PushResult := by
  intro s h1 h2 hpc i hi lo hrow
  have hexec : exec i s = pushWord (joinBytes hi lo) s := by
    rw [← flagsByte_eq_ofNat] at hrow
    simp only [List.mem_cons, List.not_mem_nil, or_false, Prod.mk.injEq] at hrow
    obtain ⟨rfl, rfl, rfl⟩ | ⟨rfl, rfl, rfl⟩ | ⟨rfl, rfl, rfl⟩ | ⟨rfl, rfl, rfl⟩ := hrow <;> rfl
  rw [hexec, pushWord_inside h1 h2 _ hpc, State.pushed_eq h2, hiByte_joinBytes, loByte_joinBytes]

/-- Writing a pair from two bytes (R11). -/
theorem Regs.setPair_joinBytes (x : Regs) (p : RegPair) (hi lo : Byte) :
    x.setPair p (joinBytes hi lo) = (x.set (highReg p) hi).set (lowReg p) lo := by
  rw [Regs.setPair, hiByte_joinBytes, loByte_joinBytes]

/-- Settles O54: the word at SP is split into the two registers, or A and the five flags. -/
theorem popResult : Obligations.PopResult := by
  rintro s lo hi hin hfit hpc rfl rfl
  have hpair (p : RegPair) := (exec_popOf p s).trans (popPair_inside hin hfit hpc p)
  simp only [topOfStack_eq, Regs.setPair_joinBytes] at hpair
  refine ⟨hpair .BC, hpair .DE, hpair .HL, ?_⟩
  have hpsw : exec .popPSW s = popAccumulatorAndFlags s := rfl
  rw [hpsw, popAccumulatorAndFlags_inside hin hfit hpc, topOfStack_eq, hiByte_joinBytes, loByte_joinBytes]
  rfl

/-- XTHL reads both bytes before it writes either, so its checks are those of the read (R174). -/
theorem exec_xthl_of_read_error {s : State} {k : Fault} (h : memRead16 s (addrOf s.sp) = .error k) :
    exec .xthl s = .next { s with fault := some k } := by
  have hexec : exec .xthl s = exchangeTopHL s := rfl
  rw [hexec, exchangeTopHL, h]
  rfl

theorem exec_xthl_inside {s : State} (hpc : s.pc.toNat + 1 ≤ 0xFFFF) (h : addrOf s.sp + 1 < s.config.memSize) :
    exec .xthl s = .next { s with
      mem := (s.mem.set s.sp.toNat s.regs.L).set (s.sp.toNat + 1) s.regs.H
      regs := { s.regs with L := s.mem.get s.sp.toNat, H := s.mem.get (s.sp.toNat + 1) }, pc := s.pc + 1 } := by
  obtain ⟨hlow, hhigh⟩ := inMemory_popAddrs h
  have hexec : exec .xthl s = exchangeTopHL s := rfl
  have hread : memRead16 s (addrOf s.sp) = .ok (joinBytes (s.mem.get (s.sp.toNat + 1)) (s.mem.get s.sp.toNat)) := by
    rw [memRead16_eq, if_pos hlow, if_pos hhigh]
    rfl
  have hwrite : memWrite16 s (addrOf s.sp) (s.regPair .HL) =
      .ok { s with mem := (s.mem.set s.sp.toNat s.regs.L).set (s.sp.toNat + 1) s.regs.H } := by
    rw [memWrite16_eq, if_pos hlow, if_pos hhigh, State.regPair, Regs.getPair, hiByte_joinBytes, loByte_joinBytes]
    rfl
  have hregs : s.regs.setPair .HL (joinBytes (s.mem.get (s.sp.toNat + 1)) (s.mem.get s.sp.toNat)) =
      { s.regs with L := s.mem.get s.sp.toNat, H := s.mem.get (s.sp.toNat + 1) } := Regs.setPair_joinBytes ..
  rw [hexec, exchangeTopHL, hread, ← hregs]
  show finish s (memWrite16 s (addrOf s.sp) (s.regPair .HL) >>= _) = _
  rw [hwrite]
  exact finish_advance rfl hpc

/-- Settles O55: XTHL completes inside memory and else takes the fault of its read; SPHL checks nothing. -/
theorem stackPointerMoveResult : Obligations.StackPointerMoveResult := by
  intro s
  obtain ⟨-, houtside, hlast⟩ := twoByteAccessIsLittleEndian s (addrOf s.sp) (s.regPair .HL)
  refine ⟨exec_xthl_inside, fun hout => ?_, fun hend => ?_, fun hpc => ?_⟩
  · obtain ⟨hread, -⟩ := houtside (.inr (Int.ofNat_le.mpr hout))
    exact exec_xthl_of_read_error hread
  · obtain ⟨hread, -⟩ := hlast (Int.natCast_nonneg _) hend
    exact exec_xthl_of_read_error hread
  · rw [← joinBytes_eq_ofNat]
    exact finish_advance rfl hpc

end Sys2Proof.Machine
end

section
/-! PROOFS. The flag and mode instructions' statements: CMA's and DAA's computations as equations in numbers, and each
instruction as the advance of PC after its one change; HLT alone keeps PC. -/
namespace Sys2Proof.Machine

/-! ## The two computations in numbers -/

/-- The ones' complement, as a difference (R193). -/
theorem not_eq_ofNat (v : Byte) : ~~~v = BitVec.ofNat 8 (255 - v.toNat) := by
  have hv := v.isLt
  apply BitVec.eq_of_toNat_eq
  rw [BitVec.toNat_not, BitVec.toNat_ofNat]
  omega

/-! ### DAA's correction byte, from its two corrections -/

section
variable {low corr : Nat} (hlow : low = 6 ∨ low = 0) (hcorr : corr = 96 ∨ corr = 0)
include hlow hcorr

theorem decimalCorrection_eq :
    ((if decide (low = 6) then 0x06 else 0x00) + (if decide (corr = 96) then 0x60 else 0x00) : Byte) =
      BitVec.ofNat 8 (low + corr) := by
  obtain rfl | rfl := hlow <;> obtain rfl | rfl := hcorr <;> rfl

/-- The high correction leaves the low nibble alone. -/
theorem lowNibble_decimalCorrection : lowNibble (BitVec.ofNat 8 (low + corr)) = low := by
  obtain rfl | rfl := hlow <;> obtain rfl | rfl := hcorr <;> rfl

end

/-- Carry is set with the high correction and else kept; Auxiliary-Carry is the carry of the low one (R194). -/
theorem daa8_eq {a : Byte} {f : Flags} {low corr : Nat}
    (hlow : low = if f.AC = true ∨ 9 < a.toNat % 16 then 6 else 0)
    (hcorr : corr = if f.CY = true ∨ 9 < a.toNat / 16 ∨ (9 ≤ a.toNat / 16 ∧ 9 < a.toNat % 16) then 96 else 0) :
    daa8 a f =
      (BitVec.ofNat 8 (a.toNat + low + corr),
        zspWith (BitVec.ofNat 8 (a.toNat + low + corr)) (decide (f.CY = true ∨ corr = 96))
          (decide (16 ≤ a.toNat % 16 + low))) := by
  have hfixLow : (f.AC || decide (lowNibble a > 9)) = decide (low = 6) := by
    rw [hlow, Bool.eq_iff_iff]
    simp [lowNibble]
  have hfixHigh : (f.CY || decide (highNibble a > 9) || (decide (highNibble a ≥ 9) && decide (lowNibble a > 9))) =
      decide (corr = 96) := by
    rw [hcorr, Bool.eq_iff_iff]
    simp [lowNibble, highNibble, or_assoc]
  have hlow' : low = 6 ∨ low = 0 := hlow ▸ ite_eq_or_eq ..
  have hcorr' : corr = 96 ∨ corr = 0 := hcorr ▸ ite_eq_or_eq ..
  have hsum : a + BitVec.ofNat 8 (low + corr) = BitVec.ofNat 8 (a.toNat + low + corr) := by
    rw [Nat.add_assoc, BitVec.ofNat_add a.toNat, BitVec.ofNat_toNat, BitVec.setWidth_eq]
  simp only [daa8, hfixLow, hfixHigh, decimalCorrection_eq hlow' hcorr', lowNibble_decimalCorrection hlow' hcorr', hsum,
    Bool.decide_or, Bool.decide_eq_true]
  rfl

/-! ## The instructions -/

/-- Settles O56: each instruction makes its one change, then PC advances; HLT has no advance that could fail. -/
theorem flagAndModeResult : Obligations.FlagAndModeResult := by
  intro s
  refine ⟨fun hpc => ⟨?nop, ?stc, ?cmc, ?cma, ?ei, ?di⟩, ?hlt⟩
  case cma =>
    rw [← not_eq_ofNat]
    exact finish_advance rfl hpc
  case nop | stc | cmc | ei | di => exact finish_advance rfl hpc
  case hlt => rfl

/-- Settles O57, by the equation of DAA's computation. -/
theorem decimalAdjustResult : Obligations.DecimalAdjustResult := by
  rintro s lo hi low corr total hpc rfl rfl hlow hcorr rfl
  have hexec : exec .daa s = .next { s.setAccumulator (daa8 s.regs.A s.flags) with pc := s.pc + 1 } :=
    finish_advance rfl hpc
  have hres : BitVec.ofNat 8 ((s.regs.A.toNat + low + corr) % 256) = BitVec.ofNat 8 (s.regs.A.toNat + low + corr) :=
    BitVec.eq_of_toNat_eq (Nat.mod_mod ..)
  rw [hexec, daa8_eq hlow hcorr, zspWith_ofNat, hres]
  rfl

end Sys2Proof.Machine
end

section
/-! PROOFS. The memory transfer's statements: the shared loads and stores of A and of HL in numbers, inside memory and out, and
each instruction as one of them; the ports as the advance of PC after their one change. -/
namespace Sys2Proof.Machine

/-! ## One byte between A and memory -/

section
variable {s : State} {w : Word} {len : Nat} (hin : w.toNat < s.config.memSize) (hpc : s.pc.toNat + len ≤ 0xFFFF)
include hin hpc

theorem storeAccumulator_inside :
    storeAccumulator len w s =
      .next { s with mem := s.mem.set w.toNat s.regs.A, pc := s.pc + BitVec.ofNat 16 len } := by
  obtain ⟨hinside, -⟩ := byteAccessIsBounded s (addrOf w) (s.reg .A)
  obtain ⟨-, hwrite⟩ := hinside (Int.natCast_nonneg _) (Int.ofNat_lt.mpr hin)
  rw [storeAccumulator, hwrite]
  exact finish_advance rfl hpc

theorem loadAccumulator_inside :
    loadAccumulator len w s =
      .next { s with regs := { s.regs with A := s.mem.get w.toNat }, pc := s.pc + BitVec.ofNat 16 len } := by
  obtain ⟨hinside, -⟩ := byteAccessIsBounded s (addrOf w) (s.reg .A)
  obtain ⟨hread, -⟩ := hinside (Int.natCast_nonneg _) (Int.ofNat_lt.mpr hin)
  rw [loadAccumulator, hread]
  exact finish_advance rfl hpc

end

/-- Settles O58: each of the six is the shared store or load of A, at the address in a pair or at `a16`. -/
theorem accumulatorTransferResult : Obligations.AccumulatorTransferResult := by
  intro s a a16
  refine ⟨fun hin hpc => ⟨fun ha => ?BC, fun ha => ?DE⟩, fun hin hpc => ?direct⟩
  case BC | DE =>
    obtain rfl := ha.trans (toNat_joinBytes ..).symm
    exact ⟨storeAccumulator_inside hin hpc, loadAccumulator_inside hin hpc⟩
  case direct => exact ⟨storeAccumulator_inside hin hpc, loadAccumulator_inside hin hpc⟩

/-! ## HL and two bytes of memory -/

section
variable {s : State} {a16 : Word}

theorem inMemory_wordAddrs (hin : a16.toNat + 1 < s.config.memSize) :
    s.inMemory (addrOf a16) = true ∧ s.inMemory (addrOf a16 + 1) = true := by
  simp only [inMemory_iff]
  unfold addrOf
  omega

theorem storeHL_inside (hin : a16.toNat + 1 < s.config.memSize) (hpc : s.pc.toNat + 3 ≤ 0xFFFF) :
    storeHL a16 s = .next { s with
      mem := (s.mem.set a16.toNat s.regs.L).set (a16.toNat + 1) s.regs.H, pc := s.pc + 3 } := by
  obtain ⟨hlow, hhigh⟩ := inMemory_wordAddrs hin
  rw [storeHL, memWrite16_eq, if_pos hlow, if_pos hhigh, State.regPair, Regs.getPair, hiByte_joinBytes, loByte_joinBytes]
  exact finish_advance rfl hpc

theorem loadHL_inside (hin : a16.toNat + 1 < s.config.memSize) (hpc : s.pc.toNat + 3 ≤ 0xFFFF) :
    loadHL a16 s = .next { s with
      regs := { s.regs with L := s.mem.get a16.toNat, H := s.mem.get (a16.toNat + 1) }, pc := s.pc + 3 } := by
  obtain ⟨hlow, hhigh⟩ := inMemory_wordAddrs hin
  have hregs : s.regs.setPair .HL (joinBytes (s.mem.get (a16.toNat + 1)) (s.mem.get a16.toNat)) =
      { s.regs with L := s.mem.get a16.toNat, H := s.mem.get (a16.toNat + 1) } := Regs.setPair_joinBytes ..
  rw [loadHL, memRead16_eq, if_pos hlow, if_pos hhigh, ← hregs]
  exact finish_advance rfl hpc

theorem storeHL_of_write_error {k : Fault} (h : memWrite16 s (addrOf a16) (s.regPair .HL) = .error k) :
    storeHL a16 s = .next { s with fault := some k } := by
  rw [storeHL, h]
  rfl

theorem loadHL_of_read_error {k : Fault} (h : memRead16 s (addrOf a16) = .error k) :
    loadHL a16 s = .next { s with fault := some k } := by
  rw [loadHL, h]
  rfl

end

/-- Settles O59: both bytes are checked, the lower first, before either is moved. -/
theorem hlTransferResult : Obligations.HLTransferResult := by
  intro s a16
  obtain ⟨-, houtside, hlast⟩ := twoByteAccessIsLittleEndian s (addrOf a16) (s.regPair .HL)
  refine ⟨fun hin hpc => ⟨storeHL_inside hin hpc, loadHL_inside hin hpc⟩, fun hout => ?_, fun hend => ?_⟩
  · obtain ⟨hread, hwrite⟩ := houtside (.inr (Int.ofNat_le.mpr hout))
    exact ⟨storeHL_of_write_error hwrite, loadHL_of_read_error hread⟩
  · obtain ⟨hread, hwrite⟩ := hlast (Int.natCast_nonneg _) (by unfold addrOf; omega)
    exact ⟨storeHL_of_write_error hwrite, loadHL_of_read_error hread⟩

/-! ## The ports -/

section
variable {s : State} {p8 : Byte} (hpc : s.pc.toNat + 2 ≤ 0xFFFF)
include hpc

theorem inputPort_answered {v : Byte} (h : portInValue s.config p8 = some v) :
    inputPort p8 s = .next { s with regs := { s.regs with A := v }, pc := s.pc + 2 } := by
  rw [inputPort, h]
  exact finish_advance rfl hpc

theorem inputPort_unanswered (h : portInValue s.config p8 = none) :
    inputPort p8 s = .next { s with pc := s.pc + 2 } := by
  rw [inputPort, h]
  exact finish_advance rfl hpc

end

/-- Settles O60: IN by PortIn's answer; OUT's one change is the event it appends. -/
theorem portResult : Obligations.PortResult := by
  intro s p8 hpc
  exact ⟨fun _ => inputPort_answered hpc, inputPort_unanswered hpc, finish_advance rfl hpc⟩

end Sys2Proof.Machine
end

section
/-! PROOFS. The exceptions' statements. `fetch_eq` joins the fetch to items 1 to 4 of R236, as `exec_eq` joins `exec` to items 5
to 7; `step_eq` puts them together: a step takes the first fault of the table, or completes. Which faults the table can name,
and with which address, follows from its sources in their order. -/
namespace Sys2Proof.Machine

open Sys2Proof.Safety

/-! ## The fetch: items 1 to 4 -/

/-- Decoding looks at no byte beyond the opcode's length. -/
theorem decodeOpcode_congr {op b2 b3 c2 c3 : Byte} (h2 : 1 < opcodeLength op → b2 = c2) (h3 : 2 < opcodeLength op → b3 = c3) :
    decodeOpcode op b2 b3 = decodeOpcode op c2 c3 := by
  obtain ⟨i, hi⟩ := exists_canonical op
  rw [opcodeLength_eq_length op 0 0, hi, length_decodeOpcode_opcode, Instr.length, encode] at h2 h3
  rw [hi, hi]
  cases format_of i with
  | implied hbytes hdecode => rw [hdecode, hdecode]
  | byte d8 hop hbytes hdecode =>
    rw [hbytes] at h2
    rw [hop, hdecode, hdecode, h2 (by simp)]
  | word d16 hop hbytes hdecode =>
    rw [hbytes] at h2 h3
    rw [hop, hdecode, hdecode, h2 (by simp), h3 (by simp)]

/-- Items 1 to 4 of R236: the first fault of the fetch. -/
def fetchFault (s : State) : Option Fault :=
  outside s (addrOf s.pc)
    <|> (if s.config.undefSet.contains (opcodeAt s) then some (.decodeError s.pc (opcodeAt s)) else none)
    <|> (if 2 ≤ opcodeLength (opcodeAt s) then outside s (addrOf s.pc + 1) else none)
    <|> (if 3 ≤ opcodeLength (opcodeAt s) then outside s (addrOf s.pc + 2) else none)

theorem stepFault_eq (s : State) : stepFault s = (fetchFault s <|> execFault (instrAt s) s) := by
  simp only [stepFault, fetchFault, Option.orElse_eq_orElse, Option.orElse_eq_or, Option.or_assoc]

section
variable {s : State}

theorem fetch_of_opcode_undefined (hm : s.inMemory (addrOf s.pc) = true) (hu : opcodeAt s ∈ s.config.undefSet) :
    fetch s = .error (.decodeError s.pc (opcodeAt s)) := by
  have hread : memRead s (addrOf s.pc) = .ok (opcodeAt s) := by rw [memRead_eq, if_pos hm]; rfl
  rw [fetch, hread]
  exact if_pos (by simpa using hu)

/-- One operand byte: its check comes first, then the faults of what follows. -/
theorem fetchOperand_bind {f : Option Fault} {i : Instr} {len k : Nat} {next : Byte → Except Fault Instr}
    (h : ∀ b, (k < len → b = s.byteAt (addrOf s.pc + k)) → next b = f.elim (.ok i) .error) :
    (fetchOperand s len k >>= next) =
      ((if k < len then outside s (addrOf s.pc + k) else none) <|> f).elim (.ok i) .error := by
  by_cases hk : k < len
  · rw [if_pos hk]
    cases hm : s.inMemory (addrOf s.pc + k)
    · rw [fetchOperand_outside hk hm, outside_of_not_inMemory (by simp [hm])]
      rfl
    · rw [fetchOperand_inside hk hm, outside_of_inMemory hm]
      exact h _ fun _ => rfl
  · rw [if_neg hk, fetchOperand_undeclared (by omega)]
    exact h _ fun hlt => absurd hlt hk

/-- The fetch raises the first fault of the table, or else answers the instruction at PC. -/
theorem fetch_eq (s : State) : fetch s = (fetchFault s).elim (.ok (instrAt s)) .error := by
  cases hm : s.inMemory (addrOf s.pc)
  · rw [fetch_of_opcode_outside hm, fetchFault, outside_of_not_inMemory (by simp [hm])]
    rfl
  rw [fetchFault, outside_of_inMemory hm]
  by_cases hu : opcodeAt s ∈ s.config.undefSet
  · rw [fetch_of_opcode_undefined hm hu, if_pos (by simpa using hu)]
    rfl
  · rw [fetch_of_opcode_defined hm hu, if_neg (by simpa using hu),
      ← orElse_failure (if 3 ≤ opcodeLength (opcodeAt s) then _ else _)]
    exact fetchOperand_bind (k := 1) fun b2 h2 => fetchOperand_bind (k := 2) fun b3 h3 =>
      congrArg Except.ok (decodeOpcode_congr h2 h3)

end

/-! ## The step: items 1 to 7 -/

theorem conclude_fault {s t : State} {f : Option Fault} (ht : t.fault = none) : (conclude s f t).fault = f := by
  cases f with
  | none => exact ht
  | some k => rfl

/-- The fault of an instruction is the table's. -/
theorem exec_fault {i : Instr} {s t : State} (hs : s.fault = none) (h : exec i s = .next t) : t.fault = execFault i s := by
  obtain ⟨k, hk, rfl⟩ | ⟨hnone, u, hu, rfl⟩ := exec_cases h
  · exact hk.symm
  · exact (hu.fault.trans hs).trans hnone.symm

/-- A step of a running core takes the first fault of the table, or else has the effect of the instruction at PC. -/
theorem step_eq {s u : State} (hs : Running s) (hu : Effect s (instrAt s) u) :
    step s = .next (conclude s (stepFault s) { u with pc := BitVec.ofNat 16 (nextPC (instrAt s) s) }) := by
  obtain ⟨hh, hf⟩ := hs
  rw [step_running hf hh, fetch_eq, stepFault_eq]
  cases fetchFault s with
  | none => exact exec_eq hu
  | some k => rfl

/-- The fault of a step is the table's, and a step that raises it changes nothing else. -/
theorem step_fault {s t : State} (h : step s = .next t) :
    t.fault = stepFault s ∧ ∀ k, stepFault s = some k → t = takeFault k s := by
  have hs : Running s := step_next_running h
  obtain ⟨u, hu⟩ := effect_exists (instrAt s) s
  rw [step_eq hs hu] at h
  cases h
  exact ⟨conclude_fault (hu.fault.trans hs.2), fun k hk => by rw [hk, conclude_some]⟩

/-- Settles O25: a running core has a next state, and its fault is the table's. -/
theorem faultPriority : Obligations.FaultPriority := by
  intro s hs
  obtain ⟨-, -, hnext⟩ := stepStopsAfterHaltOrFault
  obtain ⟨t, ht⟩ := hnext s hs
  exact ⟨t, ht, (step_fault ht).1⟩

/-- Settles O26: the fault is the table's, taken from the state before. -/
theorem faultEntryIsPrecise : Obligations.FaultEntryIsPrecise := by
  intro s t k h hk
  obtain ⟨hfault, hentry⟩ := step_fault h
  obtain rfl := hentry k (hfault.symm.trans hk)
  exact ⟨rfl, rfl⟩

/-! ## The checks of an instruction, by kind -/

/-- The addresses of one access to data: none, one byte, or the two bytes of a word. -/
inductive DataAddrs : List Int → Prop where
  | none : DataAddrs []
  | byte (w : Word) : DataAddrs [addrOf w]
  | word (w : Word) : DataAddrs [addrOf w, addrOf w + 1]

/-- What the tables of R236 have an instruction check: its data accesses; a push, after the return address of a call; or a pop
and the stack pointer it leaves. -/
inductive Checks (s : State) (i : Instr) : Prop where
  | data {reads writes : List Int} {n : Nat} (hreads : DataAddrs reads) (hwrites : DataAddrs writes)
      (hp : profile i s = (none, reads, writes, none, n))
  | push {ret : Option Fault} {n : Nat} (hret : ret = none ∨ ret = tooWide (s.pc.toNat + i.length))
      (hp : profile i s = (ret, [], pushAddrs s, none, n))
  | pop {n : Nat} (hp : profile i s = (none, popAddrs s, [], tooWide (s.sp.toNat + 2), n))

theorem checks_of (i : Instr) (s : State) : Checks s i := by
  cases family_of i
  case mov d r => cases d <;> cases r <;> exact .data .none .none rfl
  case movFromM d => cases d <;> exact .data (.byte (s.regPair .HL)) .none rfl
  case movToM r => cases r <;> exact .data .none (.byte (s.regPair .HL)) rfl
  case mvi r d8 => cases r <;> exact .data .none .none rfl
  case mviM d8 => exact .data .none (.byte (s.regPair .HL)) rfl
  case lxi p d16 => rcases p with (_ | _ | _) | _ <;> exact .data .none .none rfl
  case aluReg op r => cases op <;> cases r <;> exact .data .none .none rfl
  case aluM op => cases op <;> exact .data (.byte (s.regPair .HL)) .none rfl
  case aluImm op d8 => cases op <;> exact .data .none .none rfl
  case inr r | dcr r => cases r <;> exact .data .none .none rfl
  case inrM | dcrM => exact .data (.byte (s.regPair .HL)) (.byte (s.regPair .HL)) rfl
  case inx p | dcx p | dad p => rcases p with (_ | _ | _) | _ <;> exact .data .none .none rfl
  case jcc c a16 =>
    cases h : condHolds c s.flags
    · exact .data .none .none (profile_jcc_untaken a16 h)
    · exact .data .none .none (profile_jcc_taken a16 h)
  case ccc c a16 =>
    cases h : condHolds c s.flags
    · exact .data .none .none (profile_ccc_untaken a16 h)
    · exact .push (.inr (by cases c <;> rfl)) (profile_ccc_taken a16 h)
  case rcc c =>
    cases h : condHolds c s.flags
    · exact .data .none .none (profile_rcc_untaken h)
    · exact .pop (profile_rcc_taken h)
  case rst n =>
    have hlen : (rstOf n).length = 1 := by fin_cases n <;> rfl
    exact .push (.inr (by rw [hlen])) (profile_rst n s)
  case call a16 => exact .push (.inr rfl) rfl
  case push p => cases p <;> exact .push (.inl rfl) rfl
  case pushPSW => exact .push (.inl rfl) rfl
  case pop p => cases p <;> exact .pop rfl
  case popPSW | ret => exact .pop rfl
  case xthl => exact .data (.word s.sp) (.word s.sp) rfl
  case staxB => exact .data .none (.byte (s.regPair .BC)) rfl
  case staxD => exact .data .none (.byte (s.regPair .DE)) rfl
  case sta a16 => exact .data .none (.byte a16) rfl
  case shld a16 => exact .data .none (.word a16) rfl
  case ldaxB => exact .data (.byte (s.regPair .BC)) .none rfl
  case ldaxD => exact .data (.byte (s.regPair .DE)) .none rfl
  case lda a16 => exact .data (.byte a16) .none rfl
  case lhld a16 => exact .data (.word a16) .none rfl
  all_goals exact .data .none .none rfl

theorem nextPC_cases (i : Instr) (s : State) : (∃ w : Word, nextPC i s = w.toNat) ∨ nextPC i s = s.pc.toNat + i.length := by
  unfold nextPC
  split
  · exact .inl ⟨_, rfl⟩
  · split
    · exact .inl ⟨_, rfl⟩
    · exact .inr rfl

/-- The faults of the tables of `profile`, in order. -/
theorem execFault_of_profile {i : Instr} {s : State} {ret popped : Option Fault} {reads writes : List Int} {n : Nat}
    (hp : profile i s = (ret, reads, writes, popped, n)) :
    execFault i s = (ret <|> outsideOr s reads (outsideOr s writes (popped <|> tooWide n))) := by
  have h := congrArg State.fault (concluded_of_profile (u := { s with fault := none }) hp)
  rwa [concluded, conclude_fault rfl, conclude_fault rfl] at h

/-! ## The faults of the tables -/

/-- The fault of `f`, if there is one, satisfies `P`. -/
def Reports (P : Fault → Prop) (f : Option Fault) : Prop := ∀ k, f = some k → P k

theorem inMemory_of_outside_none {s : State} {a : Int} (h : outside s a = none) : s.inMemory a = true := by
  by_contra hm
  cases (outside_of_not_inMemory hm).symm.trans h

theorem lt_memSize_of_outside_none {s : State} {a : Int} (h : outside s a = none) : a < s.config.memSize :=
  ((inMemory_iff s a).mp (inMemory_of_outside_none h)).2

theorem addrOf_bounds (w : Word) : 0 ≤ addrOf w ∧ addrOf w ≤ 0xFFFF := by
  unfold addrOf
  have := w.isLt
  omega

section
variable {P : Fault → Prop} {s : State} {f g : Option Fault}

theorem reports_none : Reports P none := fun _ h => by cases h

theorem reports_some {k : Fault} (h : P k) : Reports P (some k) := fun _ hk => Option.some.inj hk ▸ h

theorem reports_orElse (hf : Reports P f) (hg : f = none → Reports P g) : Reports P (f <|> g) := by
  cases f with
  | none => exact hg rfl
  | some k => exact hf

theorem reports_ite {c : Prop} [Decidable c] (h : c → Reports P f) : Reports P (if c then f else none) := by
  by_cases hc : c
  · rw [if_pos hc]
    exact h hc
  · rw [if_neg hc]
    exact reports_none

theorem reports_outside {a : Int} (h : s.inMemory a = false → P (.boundsError a)) : Reports P (outside s a) := by
  cases hm : s.inMemory a
  · rw [outside_of_not_inMemory (by simp [hm])]
    exact reports_some (h hm)
  · rw [outside_of_inMemory hm]
    exact reports_none

theorem reports_tooWide {n : Nat} (h : 0xFFFF < n → P (.boundsError n)) : Reports P (tooWide n) := by
  by_cases hn : n ≤ 0xFFFF
  · rw [tooWide_of_le hn]
    exact reports_none
  · rw [tooWide_of_not_le hn]
    exact reports_some (h (by omega))

section
variable (hout : ∀ a, -1 ≤ a → a ≤ 0x10000 → s.inMemory a = false → P (.boundsError a))
include hout

theorem DataAddrs.reports {addrs : List Int} (haddrs : DataAddrs addrs) (hf : Reports P f) :
    Reports P (outsideOr s addrs f) := by
  cases haddrs with
  | none => exact hf
  | byte w =>
    obtain ⟨hlo, hhi⟩ := addrOf_bounds w
    exact reports_orElse (reports_outside (hout _ (by omega) (by omega))) fun _ => hf
  | word w =>
    obtain ⟨hlo, hhi⟩ := addrOf_bounds w
    exact reports_orElse (reports_outside (hout _ (by omega) (by omega))) fun _ =>
      reports_orElse (reports_outside (hout _ (by omega) (by omega))) fun _ => hf

/-- The second address of a push is at least -1, as the first is an address of memory. -/
theorem reports_pushAddrs (hf : Reports P f) : Reports P (outsideOr s (pushAddrs s) f) := by
  obtain ⟨hlo, hhi⟩ := addrOf_bounds s.sp
  refine reports_orElse (reports_outside (hout _ (by omega) (by omega))) fun hfirst => ?_
  obtain ⟨hsp, -⟩ := (inMemory_iff s _).mp (inMemory_of_outside_none hfirst)
  exact reports_orElse (reports_outside (hout _ (by omega) (by omega))) fun _ => hf

/-- The popped SP is checked once both stack bytes are known to be in memory. -/
theorem reports_popAddrs
    (hpop : s.inMemory (addrOf s.sp + 1) = true → 0xFFFF < s.sp.toNat + 2 → P (.boundsError (s.sp.toNat + 2 : Nat)))
    (hf : Reports P f) : Reports P (outsideOr s (popAddrs s) (tooWide (s.sp.toNat + 2) <|> f)) := by
  obtain ⟨hlo, hhi⟩ := addrOf_bounds s.sp
  refine reports_orElse (reports_outside (hout _ (by omega) (by omega))) fun _ =>
    reports_orElse (reports_outside (hout _ (by omega) (by omega))) fun hsecond => ?_
  exact reports_orElse (reports_tooWide (hpop (inMemory_of_outside_none hsecond))) fun _ => hf

/-- The faults of items 5 to 7 are BoundsErrors: of an address accessed, of the popped SP, or of the address of the next
instruction. -/
theorem execFault_reports {i : Instr}
    (hpop : s.inMemory (addrOf s.sp + 1) = true → 0xFFFF < s.sp.toNat + 2 → P (.boundsError (s.sp.toNat + 2 : Nat)))
    (hnext : 0xFFFF < s.pc.toNat + i.length → P (.boundsError (s.pc.toNat + i.length : Nat))) :
    Reports P (execFault i s) := by
  have hwide : Reports P (tooWide (nextPC i s)) := by
    obtain ⟨w, hw⟩ | hseq := nextPC_cases i s
    · rw [hw, tooWide_toNat]
      exact reports_none
    · rw [hseq]
      exact reports_tooWide hnext
  cases checks_of i s with
  | data hreads hwrites hp =>
    obtain rfl : nextPC i s = _ := congrArg (·.2.2.2.2) hp
    rw [execFault_of_profile hp]
    exact hreads.reports hout (hwrites.reports hout hwide)
  | push hret hp =>
    obtain rfl : nextPC i s = _ := congrArg (·.2.2.2.2) hp
    rw [execFault_of_profile hp]
    refine reports_orElse ?_ fun _ => reports_pushAddrs hout hwide
    obtain rfl | rfl := hret
    · exact reports_none
    · exact reports_tooWide hnext
  | pop hp =>
    obtain rfl : nextPC i s = _ := congrArg (·.2.2.2.2) hp
    rw [execFault_of_profile hp]
    exact reports_popAddrs hout hpop hwide

/-- The faults of items 1 to 4: of a byte of the instruction, the third once the second is known to be in memory, or of an
opcode in UNDEF_SET. -/
theorem fetchFault_reports (hundef : opcodeAt s ∈ s.config.undefSet → P (.decodeError s.pc (opcodeAt s)))
    (hthird : s.inMemory (addrOf s.pc + 1) = true → s.inMemory (addrOf s.pc + 2) = false →
      P (.boundsError (addrOf s.pc + 2))) :
    Reports P (fetchFault s) := by
  obtain ⟨hlo, hhi⟩ := addrOf_bounds s.pc
  refine reports_orElse (reports_outside (hout _ (by omega) (by omega))) fun _ =>
    reports_orElse (reports_ite fun hu => reports_some (hundef (by simpa using hu))) fun _ =>
    reports_orElse (reports_ite fun _ => reports_outside (hout _ (by omega) (by omega))) fun hsecond =>
    reports_ite fun hlen => reports_outside (hthird ?_)
  rw [if_pos (by omega)] at hsecond
  exact inMemory_of_outside_none hsecond

end

/-- An instruction fetched without a fault lies in memory to its last byte. -/
theorem pc_add_length_le_memSize (h : fetchFault s = none) : s.pc.toNat + (instrAt s).length ≤ s.config.memSize := by
  simp only [fetchFault, Option.orElse_eq_none] at h
  obtain ⟨h1, -, h2, h3⟩ := h
  obtain ⟨-, hlo, hhi⟩ := opcodeLengthIsEncodedLength (opcodeAt s) 0 0
  have hpc : addrOf s.pc = s.pc.toNat := rfl
  rw [instrAt, ← opcodeLength_eq_length]
  obtain hlen | hlen | hlen : opcodeLength (opcodeAt s) = 1 ∨ opcodeLength (opcodeAt s) = 2 ∨ opcodeLength (opcodeAt s) = 3 := by
    omega
  · have hlast := lt_memSize_of_outside_none h1
    omega
  · rw [if_pos (by omega)] at h2
    have hlast := lt_memSize_of_outside_none h2
    omega
  · rw [if_pos (by omega)] at h3
    have hlast := lt_memSize_of_outside_none h3
    omega

end

/-! ## DecodeError (R233) -/

theorem execFault_reports_ne_decodeError (i : Instr) (s : State) (a : Word) (op : Byte) :
    Reports (· ≠ .decodeError a op) (execFault i s) :=
  execFault_reports (fun _ _ _ _ => nofun) (fun _ _ => nofun) fun _ => nofun

theorem stepFault_reports_ne_decodeError {s : State} (hs : s.config.undefSet = []) (a : Word) (op : Byte) :
    Reports (· ≠ .decodeError a op) (stepFault s) := by
  rw [stepFault_eq]
  exact reports_orElse (fetchFault_reports (fun _ _ _ _ => nofun) (fun hu => by simp [hs] at hu) fun _ _ => nofun)
    fun _ => execFault_reports_ne_decodeError _ s a op

/-- Settles O23: the fetch raises it at the opcode; no other source of a fault is a DecodeError. -/
theorem undefinedOpcodeRaisesDecodeError : Obligations.UndefinedOpcodeRaisesDecodeError := by
  refine ⟨fun s hs hm hu => step_of_fetch_error hs (fetch_of_opcode_undefined hm hu),
    fun s t a op _ hundef h ht => ?_, fun i s t a op hs h ht => ?_⟩
  · obtain ⟨hfault, -⟩ := step_fault h
    exact stepFault_reports_ne_decodeError hundef a op _ (hfault.symm.trans ht) rfl
  · exact execFault_reports_ne_decodeError i s a op _ ((exec_fault hs h).symm.trans ht) rfl

/-! ## The address of a BoundsError (R230) -/

/-- If `k` is a BoundsError, it reports an integer of the range of R230 that is no address of memory. -/
def AddressInRange (s : State) (k : Fault) : Prop :=
  ∀ a, k = .boundsError a → -1 ≤ a ∧ a ≤ 0x10000 ∧ (a < 0 ∨ s.config.memSize ≤ a)

theorem addressInRange_boundsError {s : State} {a : Int} (hlo : -1 ≤ a) (hhi : a ≤ 0x10000) (hm : s.inMemory a = false) :
    AddressInRange s (.boundsError a) := by
  rintro _ ⟨⟩
  exact ⟨hlo, hhi, (inMemory_eq_false_iff s a).mp hm⟩

theorem addressInRange_tooWide {s : State} (hsize : s.config.memSize ≤ 0x10000) {n : Nat} (hlo : 0xFFFF < n)
    (hhi : n ≤ 0x10000) : AddressInRange s (.boundsError n) :=
  addressInRange_boundsError (by omega) (by omega) ((inMemory_eq_false_iff s n).mpr (.inr (by omega)))

theorem stepFault_addressInRange {s : State} (hsize : s.config.memSize ≤ 0x10000) :
    Reports (AddressInRange s) (stepFault s) := by
  have hout (a : Int) := addressInRange_boundsError (s := s) (a := a)
  rw [stepFault_eq]
  refine reports_orElse (fetchFault_reports hout (fun _ _ => nofun) fun hsecond hthird => ?third) fun hfetched =>
    execFault_reports hout (fun hsecond hwide => ?popped) fun hwide => ?next
  case third =>
    have hlt := ((inMemory_iff s _).mp hsecond).2
    have hpc := (addrOf_bounds s.pc).1
    exact hout _ (by omega) (by omega) hthird
  case popped =>
    have hlt := ((inMemory_iff s _).mp hsecond).2
    unfold addrOf at hlt
    exact addressInRange_tooWide hsize hwide (by omega)
  case next => exact addressInRange_tooWide hsize hwide ((pc_add_length_le_memSize hfetched).trans hsize)

theorem memSize_le_of_wellFormed {c : Config} (h : c.wellFormed = true) : c.memSize ≤ 0x10000 := by
  simp only [Config.wellFormed, Config.memSizeAddressable, Bool.and_eq_true, decide_eq_true_eq] at h
  omega

/-- Settles O27: every source of the table reports an address in the range. -/
theorem boundsErrorAddressRange : Obligations.BoundsErrorAddressRange := by
  intro s t a hs h ht
  obtain ⟨hc, -⟩ := (wellFormed_iff s).mp hs
  obtain ⟨hfault, -⟩ := step_fault h
  exact stepFault_addressInRange (memSize_le_of_wellFormed hc) _ (hfault.symm.trans ht) a rfl

end Sys2Proof.Machine
end
